-- ==== Sys2Proof/Word.lean ====
section
/-! DEFINITION. The word types of the block. R9: a byte is 8 bits, bit 7 the most significant; R117: every value is
unsigned. A pair is two bytes taken together, the first one in the high half (R31, R54). -/

namespace Sys2Proof

/-- R9: a byte, the one width every transfer of the block has (R67). -/
abbrev Byte := BitVec 8

/-- R31, R34: a two-byte quantity, high byte first. -/
abbrev Pair := BitVec 16

end Sys2Proof
end

