-- ==== Sys2Proof/Config.lean ====
section
/-! DEFINITION. What an instance of the block fixes and the spec leaves open (R7), the free values of the registers and
buffers that R44 leaves unspecified, and what the transport and the inputs are at when the machine starts. None of them has a body: no proof can use a value of theirs. -/

namespace Sys2Proof.Config

/-- R7, R34: the configuration input `IA`, OPEN. Log 7. -/
opaque ia : Pair

/-- R7, R149: the parameter `SIA_ECHO1`, OPEN, first byte in the high half. Log 7. -/
opaque siaEcho1 : Pair

/-- The distance from `SIA_ECHO1` to `SIA_ECHO2`, less one. It only serves to say that the two differ (R149). Log 7. -/
opaque siaEchoGap : Fin 65535

/-- R7, R149: the parameter `SIA_ECHO2`, OPEN but for `SIA_ECHO1 ≠ SIA_ECHO2`. Log 7. -/
def siaEcho2 : Pair := siaEcho1 + BitVec.ofNat 16 (siaEchoGap.val + 1)

/-- R7, R152: the duration label `T_SETTLE_MS`, OPEN. Log 7. -/
opaque tSettleMs : Nat

/-! What the transport and the inputs are at when the machine starts, which R43 and R45 leave to the surroundings. Log 20. -/

/-- R43(a), R45, R56: the answers the transport already has in store, oldest first; none stands for `Timeout`. Log 3, 20. -/
opaque answersAtReset : List (Option Byte)

/-- R60, U12: how many items the transport discards at each of the first flushes. Log 4, 20. -/
opaque flushesAtReset : List Nat

/-- R43(b), R62: whether the transport is open. Log 20. -/
opaque openAtReset : Bool

/-- R39: the level of the input `cancel`. Log 20. -/
opaque cancelAtReset : Bool

/-! The unspecified values of R44, one for each hardware reset (the argument is State.epoch). Log 5. -/

/-- R44, U6: `acc` after a hardware reset. DESIGN CHOICE, log 5. -/
opaque resetAcc : Nat → Byte

/-- R44, U6: `chk_in` after a hardware reset. DESIGN CHOICE, log 5. -/
opaque resetChkIn : Nat → Byte

/-- R44, U6: `conf_pol` after a hardware reset. DESIGN CHOICE, log 5. -/
opaque resetConfPol : Nat → Bool

/-- R44: `rxb` after a hardware reset. DESIGN CHOICE, log 5. -/
opaque resetRxb : Nat → Byte

/-- R44: `echo` after a hardware reset. DESIGN CHOICE, log 5. -/
opaque resetEcho : Nat → Pair

/-- R44: `idx` after a hardware reset. DESIGN CHOICE, log 5. -/
opaque resetIdx : Nat → BitVec 6

/-- R44: `cnt` after a hardware reset. DESIGN CHOICE, log 5. -/
opaque resetCnt : Nat → BitVec 5

/-- R44, U6: what a byte of `TXB` reads as that nothing has written since hardware reset number `epoch`. Log 6. -/
opaque freeTxb (epoch : Nat) (i : Nat) : Byte

/-- R44, R51, U5, U6: what a byte of `RXB` reads as that nothing has written since its content became unspecified, for the
`epoch`-th time. Log 6. -/
opaque freeRxb (epoch : Nat) (i : Nat) : Byte

end Sys2Proof.Config
end

