-- ==== Sys2Proof/Syntax.lean ====
section
/-! DEFINITION. The instructions: one constructor for each row of spec/opcode_table.json, in the table's order. -/

namespace Sys2Proof

/-- The 42 rows of the opcode table: host operations (format H, R80), internal sub-operations, RX byte classes
(format S, R85), the RX frame (format F, R87), handshake responses (format R, R89) and TX bytes (formats C, V, P, D, E, K,
R83). Operands of the host operations are in the ports, not in the code (R80). -/
inductive Instr where
  /-- R25: does nothing. -/
  | nop
  /-- R113. -/
  | csum
  /-- R114. -/
  | verify
  /-- R140. -/
  | chkstate
  /-- R143. -/
  | reset
  /-- R147. -/
  | setaddr
  /-- R155. -/
  | init
  /-- R170. -/
  | read
  /-- R174. -/
  | write
  /-- R95. -/
  | reserved9
  /-- R95. -/
  | reservedA
  /-- R95. -/
  | reservedB
  /-- R95. -/
  | reservedC
  /-- R95. -/
  | reservedD
  /-- R95. -/
  | reservedE
  /-- R95. -/
  | reservedF
  /-- R120: sub-operation of `READ`, no host code. -/
  | decode
  /-- R130: sub-operation of `WRITE`, no host code. -/
  | encode
  /-- R146: sub-operation of `SETADDR`, no host code. -/
  | flush
  /-- R111. -/
  | csInit
  /-- R112: operand the byte absorbed. -/
  | csAbsorb (b : Byte)
  /-- R85: first byte 0x03. -/
  | rxLinklost
  /-- R85: first byte 0x0B. -/
  | rxConfNeg
  /-- R85: first byte 0x8B. -/
  | rxConfPos
  /-- R85, R86: a control field, the byte itself (bits 5, 3, 2 are free). -/
  | rxCtrl (b : Byte)
  /-- R85, R96: any other first byte. -/
  | rxOther (b : Byte)
  /-- R87: a whole received frame, from control field through checksum. -/
  | rxFrame (ctrl srcHi srcLo dstHi dstLo daf : Byte) (payload : List Byte) (chk : Byte)
  /-- R89: the response 0x03 to the reset request. -/
  | rxResetAck
  /-- R89: the response 0x07 to the state request. -/
  | rxStateReady
  /-- R89, R149: the pair received after the first read-property request. -/
  | rxSiaEcho1 (e : Pair)
  /-- R89, R149: the pair received after the second read-property request. -/
  | rxSiaEcho2 (e : Pair)
  /-- R82: 0x01. -/
  | txResetReq
  /-- R82: 0x02. -/
  | txStateReq
  /-- R82: 0x22. -/
  | txWriteProp
  /-- R82: 0x1A. -/
  | txReadProp
  /-- R82: 0x1F. -/
  | txAddrHi
  /-- R82: 0x1E. -/
  | txAddrLo
  /-- R83: the value byte after a write command. -/
  | txValue (v : Byte)
  /-- R90: the prefix of frame index `i`. -/
  | txPrefix (i : BitVec 6)
  /-- R130: a frame byte. -/
  | txData (d : Byte)
  /-- R91: the end marker of a frame of length `n`. -/
  | txEnd (n : BitVec 6)
  /-- R130: the checksum byte of a frame. -/
  | txChecksum (k : Byte)
deriving DecidableEq, Repr

end Sys2Proof
end

