-- ==== Sys2Proof/Machine/State.lean ====
section
/-! DEFINITION. The state of the block and of what it talks to, as plain data, and its value after reset (R44). -/

namespace Sys2Proof.Machine

/-! ## Named values -/

/-- R22, R23: the labels of the sequencer. `sia2b`, `sia2bSecond` and `sia6b`, `sia6bSecond` are the two `TRead`
micro-steps that R147 gives `SIA_2B` and `SIA_6B` (log 9). -/
inductive Label where
  | idle
  | csuInit | csuLoop | csuEnd
  | verInit | verLoop | verEnd
  | chkTx | chkRx | chkEnd
  | rstTop | rstTx | rstRx | rstCmp
  | siaTop | sia1a | sia1b | sia2a | sia2b | sia2bSecond | sia2c
  | sia3a | sia3b | sia4a | sia4b | sia5a | sia5b | sia5c
  | sia6a | sia6b | sia6bSecond | sia6c | siaFail
  | iniOpen | iniCfg | iniTop | iniRst | iniSia | iniChk | iniEnd
  | rdDec | rdSw | rdLost | rdEnd
  | decCtrl | decCls | decAddr | decLen | decPay | decChk | decVfy
  | wrChk | wrPfx | wrDat | wrEnd | wrCs
deriving DecidableEq, Repr

/-- R26, R80: the host operations `cur_op` can name. -/
inductive HostOp where
  | nop | csum | verify | chkstate | reset | setaddr | init | read | write
deriving DecidableEq, Repr

/-- R80: the operation's code, the 4 bits of `cur_op`. -/
def HostOp.code : HostOp → BitVec 4
  | .nop => 0 | .csum => 1 | .verify => 2 | .chkstate => 3 | .reset => 4
  | .setaddr => 5 | .init => 6 | .read => 7 | .write => 8

/-- R33: the five values of `link_state`; 5 to 7 are never held. -/
inductive LinkState where
  | uninitialized | resetting | addressAssigning | stateChecking | ready
deriving DecidableEq, Repr

/-- R33: the 3 bits of the `link_state` port. -/
def LinkState.code : LinkState → BitVec 3
  | .uninitialized => 0 | .resetting => 1 | .addressAssigning => 2 | .stateChecking => 3 | .ready => 4

/-- R180: the error kinds; codes 10 to 15 are never produced. -/
inductive ResCode where
  | none | timeout | malformedControl | checksumMismatch | linkLost | confirmationOnly
  | frameTooShort | transportNotOpen | cancelled | illegalOp
deriving DecidableEq, Repr

/-- R180: the 4 bits of the `res_code` port. -/
def ResCode.code : ResCode → BitVec 4
  | .none => 0 | .timeout => 1 | .malformedControl => 2 | .checksumMismatch => 3 | .linkLost => 4
  | .confirmationOnly => 5 | .frameTooShort => 6 | .transportNotOpen => 7 | .cancelled => 8 | .illegalOp => 9

/-- R8, R202: the duration labels handed to the transport. -/
inductive TimeLabel where
  | tShort | tReset | tFlush | tSettle
deriving DecidableEq, Repr

/-- R205: the loops that `Retry` events name. -/
inductive LoopName where
  | reset | setaddr | init
deriving DecidableEq, Repr

/-- R205: the closed alphabet of the event stream. -/
inductive Event where
  | start (op : HostOp)
  | illegal (c : BitVec 4)
  | tx (b : Byte)
  | rx (b : Byte)
  | rxTimeout (t : TimeLabel)
  | flush (t : TimeLabel)
  | delay (t : TimeLabel)
  | isOpen (v : Bool)
  | configure
  | retry (l : LoopName)
  | state (v : LinkState)
  | done (op : HostOp) (ok : Bool) (code : ResCode)
deriving DecidableEq, Repr

/-- R57, R72: an answer of the transport to a `TRead`, and an item of a script. -/
inductive Answer where
  | byte (b : Byte)
  | timeout
deriving DecidableEq, Repr

/-- R63: the parity named in the line parameters. -/
inductive Parity where
  | none | even | odd
deriving DecidableEq, Repr

/-- R63: the line parameters a `TConfigure` asks for. -/
structure LineParams where
  baud : Nat
  dataBits : Nat
  parity : Parity
  stopBits : Nat
  flowControl : Bool
deriving DecidableEq, Repr

/-- The moves of the host, the platform and the transport (R20, R21, R56), and the two that say whose turn it is (log 2). -/
inductive HostMove where
  /-- R25: pulse `op_start` with `op_code = c`. -/
  | opStart (c : BitVec 4)
  /-- R32, R50: write `TXB[i]`. -/
  | writeTxb (i : Fin 63) (b : Byte)
  /-- R29, R32: write `tx_len`. -/
  | writeTxLen (n : BitVec 6)
  /-- R28, R32: write `chk_in`. -/
  | writeChkIn (b : Byte)
  /-- R39: drive `cancel`. -/
  | setCancel (v : Bool)
  /-- R210: assert `hw_rst`. -/
  | hwReset
  /-- R34, R213: the platform sets the configuration input `IA`. -/
  | strapIa (v : Pair)
  /-- R213: the platform opens or closes the transport. -/
  | setOpen (v : Bool)
  /-- R43(a), R56, U9: the transport has one more answer in store, behind those it has: a byte that came from the device, or a
  read that will time out. -/
  | answer (a : Answer)
  /-- R60, U12: the transport's choice at one more flush: how many items it will discard. -/
  | flushChoice (n : Nat)
  /-- R101: the host waits for `busy = 0`. -/
  | waitIdle
  /-- The host lets the engine take one micro-step before its next move. -/
  | letEngine
deriving DecidableEq, Repr

/-- A buffer: pairs of index and byte, indexes strictly rising; an index that is not listed has not been written since the
last hardware reset. -/
abbrev Memory := List Host.Cell

/-! ## The reasons a step can stop -/

/-- Faults of the model. Both are unreachable by the spec's own rules and safe: the model stops where the spec says nothing
happens. -/
inductive Fault where
  /-- Raised by the micro-steps that read `TXB` (R50): the index is not one of 0 to 62. Safe. Log 23. -/
  | txbIndex
  /-- Raised by `push` (R121) and the host's read of `RXB`: the index is not one of 0 to 21. Safe. Log 23. -/
  | rxbIndex
deriving DecidableEq, Repr

/-- Refusals of the model: the spec gives no effect. -/
inductive Refusal where
  /-- Raised by the dispatch for an instruction without a meaning. Safe. -/
  | notModelled (mnemonic : String)
  /-- Raised by a transport request while the transport is not open (U3, R229: not specified by any source). Safe. Log 10. -/
  | transportClosed
  /-- Raised by an internal sub-operation or a wire byte at a label that does not perform it (R80: the host cannot start it;
  R81: a byte has its meaning by position). Safe. Log 11. -/
  | offPosition
  /-- Raised by an operand outside the wire format (R92, R98, U1: refuse). Safe. Log 12. -/
  | outsideFormat
deriving DecidableEq, Repr

/-! ## The state -/

/-- Everything the spec gives the block, the two streams and what the transport hides, then the model's own fields. -/
structure State where
  /-- R22: the sequencer. -/
  seq : Label
  /-- R22, R117: the loop index. -/
  idx : BitVec 6
  /-- R22, R94: the remaining count. -/
  cnt : BitVec 5
  /-- R35. -/
  busy : Bool
  /-- R26. -/
  curOp : HostOp
  /-- R27: the checksum accumulator, visible as `csum_out`. -/
  acc : Byte
  /-- R28. -/
  chkIn : Byte
  /-- R29. -/
  txLen : BitVec 6
  /-- R30. -/
  rxLen : BitVec 5
  /-- R31: the byte answered by the last `TRead`. -/
  rxb : Byte
  /-- R31: the two bytes of a `TReadN(2)`, first in the high half. -/
  echo : Pair
  /-- R50: `TXB`. -/
  txb : Memory
  /-- R51: `RXB`. -/
  rxbuf : Memory
  /-- R33. -/
  linkState : LinkState
  /-- R34. -/
  ia : Pair
  /-- R36. -/
  resOk : Bool
  /-- R37. -/
  resCode : ResCode
  /-- R38. -/
  confPol : Bool
  /-- R39. -/
  cancel : Bool
  /-- R205: the events so far, oldest first. -/
  events : List Event
  /-- R52(3): the bytes handed to the transport, oldest first. -/
  txStream : List Byte
  /-- R52(4), R72: the answers the transport will give, the next one first. -/
  rxStream : List Answer
  /-- R43(b), R62: whether the transport is open. -/
  isOpen : Bool
  /-- R63: the line parameters last requested. -/
  line : Option LineParams
  /-- The model's own: the last `TRead` or `TReadN` answered `Timeout` (log 9). -/
  rxTimeout : Bool
  /-- The model's own: the `ok` a called sub-operation returned (R24, log 8). -/
  retOk : Bool
  /-- The model's own: the `code` a called sub-operation returned (R24, log 8). -/
  retCode : ResCode
  /-- The model's own: how many items the transport discards at each coming flush (U12, log 4). -/
  flushPlan : List Nat
  /-- The model's own: the pending moves of host, platform and transport (log 2). -/
  moves : List HostMove
  /-- R34, R213: the configuration input that `IA` is sampled from. -/
  iaStrap : Pair
  /-- R7: the parameter `SIA_ECHO1`. -/
  siaEcho1 : Pair
  /-- R7: the parameter `SIA_ECHO2`. -/
  siaEcho2 : Pair
  /-- R7: the parameter `T_SETTLE_MS`. -/
  tSettleMs : Nat
  /-- The model's own: the number of hardware resets, which the free values are applied to (log 5). -/
  epoch : Nat
  /-- The model's own: how often the content of `RXB` has become unspecified, by a hardware reset (U6) or a failed `DECODE`
  (U5), which the free bytes of `RXB` are applied to (log 6). -/
  rxbEpoch : Nat
deriving DecidableEq, Repr

/-- R57: an answer in store as Config writes it; none stands for `Timeout`. -/
def Answer.ofStored : Option Byte → Answer
  | some b => .byte b
  | none => .timeout

/-- R44: the block after reset. What R44 leaves unspecified is a free value of Config (log 5, 6, 7), and so is what the
transport holds and the level of `cancel` (R43, R45, log 20); no move is pending (log 2). -/
def State.reset : State where
  seq := .idle
  idx := Config.resetIdx 0
  cnt := Config.resetCnt 0
  busy := false
  curOp := .nop
  acc := Config.resetAcc 0
  chkIn := Config.resetChkIn 0
  txLen := 0
  rxLen := 0
  rxb := Config.resetRxb 0
  echo := Config.resetEcho 0
  txb := []
  rxbuf := []
  linkState := .uninitialized
  ia := Config.ia
  resOk := false
  resCode := .none
  confPol := Config.resetConfPol 0
  cancel := Config.cancelAtReset
  events := []
  txStream := []
  rxStream := Config.answersAtReset.map Answer.ofStored
  isOpen := Config.openAtReset
  line := none
  rxTimeout := false
  retOk := false
  retCode := .none
  flushPlan := Config.flushesAtReset
  moves := []
  iaStrap := Config.ia
  siaEcho1 := Config.siaEcho1
  siaEcho2 := Config.siaEcho2
  tSettleMs := Config.tSettleMs
  epoch := 0
  rxbEpoch := 0

end Sys2Proof.Machine
end

