-- ==== Sys2Proof/Machine/WireFormat.lean ====
section
/-! DEFINITION. The protocol constants (R7, R41, R82) and the bit-field helpers of the wire formats (R83 to R94). -/

namespace Sys2Proof.Machine

/-! ## The table of R82 and the fixed parameters of R7 -/

/-- R7, R82: the checksum seed `CS_SEED`. -/
def csSeed : Byte := 0xFF

/-- R7, R82: `CTRL_MASK` of the receive control-field test. -/
def ctrlMask : Byte := 0xD3

/-- R7, R82: `CTRL_EXPECT` of the receive control-field test. -/
def ctrlExpect : Byte := 0x90

/-- R82: reset request, TX. -/
def resetRequest : Byte := 0x01

/-- R82: reset acknowledgement expected, RX. -/
def resetAck : Byte := 0x03

/-- R82: state request, TX. -/
def stateRequest : Byte := 0x02

/-- R82: state ready expected, RX. -/
def stateReady : Byte := 0x07

/-- R82: negative transmit confirmation, RX. -/
def confNegative : Byte := 0x0B

/-- R82: positive transmit confirmation, RX. -/
def confPositive : Byte := 0x8B

/-- R82: bus-connection-lost indication, RX; the same value as `resetAck`, told apart by position. -/
def busLost : Byte := 0x03

/-- R82: write-property (auto-acknowledge toggle), TX. -/
def writeProperty : Byte := 0x22

/-- R82: the value that disables auto-acknowledge, TX. -/
def disableValue : Byte := 0x00

/-- R82: the value that enables auto-acknowledge, TX. -/
def enableValue : Byte := 0x01

/-- R82: read-property request, TX. -/
def readProperty : Byte := 0x1A

/-- R82: write address-high, TX. -/
def writeAddrHi : Byte := 0x1F

/-- R82: write address-low, TX. -/
def writeAddrLo : Byte := 0x1E

/-- R7: `TX_MIN`, the least frame length `WRITE` accepts. -/
def txMin : Nat := 7

/-- R7: `TX_MAX`, the depth of `TXB` and the greatest frame length of the transmit format. -/
def txMax : Nat := 63

/-- R7: `RX_MAX`, the depth of `RXB`. -/
def rxMax : Nat := 22

/-- R7: `HDR_LEN`, the bytes from control field through length byte. -/
def hdrLen : Nat := 6

/-! ## Bit fields -/

/-- R85, R86: the test of class `CTRL`, `(b AND 0xD3) = 0x90`. -/
def isCtrl (b : Byte) : Bool := (b &&& ctrlMask) == ctrlExpect

/-- R85: the five classes of the first byte of a `DECODE`. -/
inductive RxClass where
  | linkLost | confNeg | confPos | ctrl | other
deriving DecidableEq, Repr

/-- R85: every byte has exactly one class. -/
def classify (b : Byte) : RxClass :=
  if b = busLost then .linkLost
  else if b = confNegative then .confNeg
  else if b = confPositive then .confPos
  else if isCtrl b then .ctrl
  else .other

/-- R88, R94: the loop count of `DECODE`, `(L AND 0x0F) + LEN_BIAS` in 5 bits. -/
def payloadCount (daf : Byte) : BitVec 5 := (daf &&& 0x0F).setWidth 5 + 1

/-- R90: the prefix byte of frame index `i`, `0x80 + i`. -/
def prefixByte (i : BitVec 6) : Byte := 0x80 + i.setWidth 8

/-- R91: the end-marker byte of a frame of length `n`, `0x40 + n`. -/
def endByte (n : BitVec 6) : Byte := 0x40 + n.setWidth 8

/-- R90, R92: the frame indexes a prefix byte may carry, 0 to 62. -/
def prefixIndexOk (i : BitVec 6) : Bool := decide (i.toNat ≤ 62)

/-- R91, R92: the frame lengths an end marker may carry, 7 to 63. -/
def endLengthOk (n : BitVec 6) : Bool := decide (7 ≤ n.toNat)

/-- R34, R93: the high byte of a pair, the one that travels first (R54). -/
def hiByte (p : Pair) : Byte := p.extractLsb' 8 8

/-- R34, R93: the low byte of a pair. -/
def loByte (p : Pair) : Byte := p.extractLsb' 0 8

/-- R31, R54: the pair whose first byte received is `hi`. -/
def pairOf (hi lo : Byte) : Pair := hi ++ lo

end Sys2Proof.Machine
end

