-- ==== Sys2Proof/Machine/FrameCodec.lean ====
section
/-! DEFINITION. The codec as functions of byte sequences: the checksum (R110), `VerifyChecksum` (R114, R115), the encoding
of a frame (R130, R131, R134), its de-stuffing (R135), and `DECODE` as a function of the transport's answers (R129). The
micro-steps of the engine do not call them; the statements compare the engine with them. -/

namespace Sys2Proof.Machine

/-- R110: `cs(f)`. -/
def cs (f : List Byte) : Byte := f.foldl (fun a b => a ^^^ b) csSeed

/-- R114: `VerifyChecksum(frame, checksum)`. -/
def verifyChecksum (f : List Byte) (c : Byte) : Bool := cs f ^^^ c == 0x00

/-- R130: the pairs of prefix and frame byte, from index `i` on. -/
def encPairs : BitVec 6 → List Byte → List Byte
  | _, [] => []
  | i, b :: f => prefixByte i :: b :: encPairs (i + 1) f

/-- R130: `enc(f)`. None where `ENCODE` gives no bytes: `FrameTooShort` below 7 (R131), outside the domain above 63
(R134, U1). -/
def enc (f : List Byte) : Option (List Byte) :=
  if f.length < txMin then none
  else if txMax < f.length then none
  else some (encPairs 0 f ++ [endByte (BitVec.ofNat 6 f.length), cs f])

/-- R135: `strip(e)` of a sequence of `n` pairs: the bytes at odd positions, then the last byte; every prefix and the end
marker removed. -/
def strip : List Byte → List Byte
  | [] => []
  | [k] => [k]
  | [_, k] => [k]
  | _ :: b :: e => b :: strip e

/-- The transport's next answer and the answers after it; exhausted, it answers `Timeout` for ever (R72, R129). -/
def nextAnswer : List Answer → Answer × List Answer
  | [] => (.timeout, [])
  | a :: r => (a, r)

/-- `n` successive reads: the bytes, or none at the first timeout, and the answers left. -/
def readBytes : Nat → List Answer → Option (List Byte) × List Answer
  | 0, r => (some [], r)
  | n + 1, a =>
    match nextAnswer a with
    | (.timeout, r) => (none, r)
    | (.byte b, r) =>
      match readBytes n r with
      | (some bs, r') => (some (b :: bs), r')
      | (none, r') => (none, r')

/-- R129: what `DECODE` makes of the transport's answers. -/
structure DecodeOutcome where
  /-- R120: `None` stands for `Ok`. -/
  code : ResCode
  /-- R126, R127: the frame stored, empty on any failure. -/
  frame : List Byte
  /-- R122: the polarity reported, where there is one. -/
  polarity : Option Bool
  /-- The answers not taken. -/
  left : List Answer
deriving DecidableEq, Repr

/-- A `DECODE` that fails with `e` and has taken all but `left` (R127, R128). -/
def DecodeOutcome.failed (e : ResCode) (left : List Answer) : DecodeOutcome :=
  { code := e, frame := [], polarity := none, left := left }

/-- R120 from the control field on: four address bytes, the length byte, the payload, the checksum. -/
def decodeBody (ctrl : Byte) (r : List Answer) : DecodeOutcome :=
  match readBytes 4 r with
  | (none, r1) => .failed .timeout r1
  | (some addr, r1) =>
    match nextAnswer r1 with
    | (.timeout, r2) => .failed .timeout r2
    | (.byte l, r2) =>
      match readBytes (payloadCount l).toNat r2 with
      | (none, r3) => .failed .timeout r3
      | (some p, r3) =>
        match nextAnswer r3 with
        | (.timeout, r4) => .failed .timeout r4
        | (.byte k, r4) =>
          if verifyChecksum (ctrl :: addr ++ l :: p) k then
            { code := .none, frame := ctrl :: addr ++ l :: p, polarity := none, left := r4 }
          else .failed .checksumMismatch r4

/-- R129: `DECODE` as a function of the answers alone. -/
def decodeAnswers (a : List Answer) : DecodeOutcome :=
  match nextAnswer a with
  | (.timeout, r) => .failed .timeout r
  | (.byte b, r) =>
    match classify b with
    | .linkLost => .failed .linkLost r
    | .confNeg => { code := .confirmationOnly, frame := [], polarity := some false, left := r }
    | .confPos => { code := .confirmationOnly, frame := [], polarity := some true, left := r }
    | .other => .failed .malformedControl r
    | .ctrl => decodeBody b r

end Sys2Proof.Machine
end

