-- ==== Sys2Proof/Machine/Ops.lean ====
section
/-! DEFINITION. The named operations over buffers, registers, streams and results that every meaning is built from: memory,
the event stream, the transport requests (R56 to R63), the checksum micro-operations (R111, R112), `push` (R121), the start
of an operation (R25), its end (R190) and the return of a sub-operation (R24), and hardware reset (R210). -/

namespace Sys2Proof.Machine

/-- What a micro-step answers. -/
abbrev Result := Host.Outcome State Fault Refusal

/-! ## Buffers -/

/-- The byte listed at an index; none where nothing has been written. -/
def Memory.read? : Memory → Nat → Option Byte
  | [], _ => none
  | (a, b) :: m, i => if a = i then some b else Memory.read? m i

/-- The buffer with byte `b` at index `i`, in canonical form. -/
def Memory.write : Memory → Nat → Byte → Memory
  | [], i, b => [(i, b)]
  | (a, c) :: m, i, b =>
    if i < a then (i, b) :: (a, c) :: m
    else if i = a then (i, b) :: m
    else (a, c) :: Memory.write m i b

/-- Indexes above `lo` (where there is one), strictly rising, and below `size`. -/
def Memory.wfFrom (size : Nat) : Option Nat → Memory → Bool
  | _, [] => true
  | lo, (a, _) :: m => lo.all (fun l => decide (l < a)) && decide (a < size) && Memory.wfFrom size (some a) m

/-- The canonical form of a buffer of `size` bytes: indexes strictly rising and inside the buffer. -/
def Memory.wf (size : Nat) (m : Memory) : Bool := Memory.wfFrom size none m

/-- R50: what byte `i` of `TXB` reads as; a byte never written since reset reads as a free value (U6, log 6). -/
def State.txbByte (s : State) (i : Nat) : Byte := (Memory.read? s.txb i).getD (Config.freeTxb s.epoch i)

/-- R51: what byte `i` of `RXB` reads as; a byte that nothing has written since the content became unspecified, by a hardware
reset (U6) or a failed `DECODE` (U5), reads as a free value (log 6). -/
def State.rxbByte (s : State) (i : Nat) : Byte := (Memory.read? s.rxbuf i).getD (Config.freeRxb s.rxbEpoch i)

/-- R50: the engine's read of `TXB[i]`, which must be one of its 63 bytes. -/
def readTxb (i : Nat) (s : State) : Except Fault Byte :=
  if i < txMax then .ok (s.txbByte i) else .error .txbIndex

/-- R51, R67: the host's read of `RXB[i]`, without side effect. -/
def hostReadRxb (i : Nat) (s : State) : Except Fault Byte :=
  if i < rxMax then .ok (s.rxbByte i) else .error .rxbIndex

/-! ## Sequencer and event stream -/

/-- R10: `emit E`. -/
def emit (e : Event) (s : State) : State := { s with events := s.events ++ [e] }

/-- R10: `goto L`, also the fall through to the next label (R22). -/
def goto (l : Label) (s : State) : State := { s with seq := l }

/-- R163, R205: a write of `link_state`, with its event when the value changes. -/
def setLink (v : LinkState) (s : State) : State :=
  if s.linkState = v then s else emit (.state v) { s with linkState := v }

/-! ## Transport requests -/

/-- R229, U3: a request needs an open transport; the spec says nothing of a closed one. -/
def whenOpen (s : State) (r : Result) : Result := if s.isOpen then r else .refused .transportClosed

/-- R58: `TWrite(b)` on an open transport. -/
def twrite (b : Byte) (s : State) : State := emit (.tx b) { s with txStream := s.txStream ++ [b] }

/-- R57, R31, R72: `TRead(T)` on an open transport; an exhausted script answers `Timeout`. -/
def tread (t : TimeLabel) (s : State) : Answer × State :=
  match s.rxStream with
  | [] => (.timeout, emit (.rxTimeout t) { s with rxTimeout := true })
  | .timeout :: r => (.timeout, emit (.rxTimeout t) { s with rxStream := r, rxTimeout := true })
  | .byte b :: r => (.byte b, emit (.rx b) { s with rxStream := r, rxb := b, rxTimeout := false })

/-- R72: the scripted transport removes items up to and including the first timeout, or all of them. -/
def dropThroughTimeout : List Answer → List Answer
  | [] => []
  | .timeout :: r => r
  | .byte _ :: r => dropThroughTimeout r

/-- R60: `TFlush(T)` on an open transport. How many items it discards is the transport's choice (U12, log 4). -/
def tflush (t : TimeLabel) (s : State) : State :=
  match s.flushPlan with
  | [] => emit (.flush t) { s with rxStream := dropThroughTimeout s.rxStream }
  | n :: p => emit (.flush t) { s with rxStream := s.rxStream.drop n, flushPlan := p }

/-- R61: `TDelay(T)`; no data moves. -/
def tdelay (t : TimeLabel) (s : State) : State := emit (.delay t) s

/-- R63: the line parameters `INIT` asks for: 19200 baud, 8 data bits, even parity, 1 stop bit, no flow control. -/
def fixedLine : LineParams :=
  { baud := 19200, dataBits := 8, parity := .even, stopBits := 1, flowControl := false }

/-- R63: `TConfigure` on an open transport. -/
def tconfigure (p : LineParams) (s : State) : State := emit .configure { s with line := some p }

/-- R62: `TIsOpen()`. -/
def tisOpen (s : State) : Bool × State := (s.isOpen, emit (.isOpen s.isOpen) s)

/-- R202: the duration a label stands for, in milliseconds. No rule reads it (R8, R235). -/
def TimeLabel.ms (s : State) : TimeLabel → Nat
  | .tShort => 500
  | .tReset => 5000
  | .tFlush => 2000
  | .tSettle => s.tSettleMs

/-- A line that sends byte `b` and goes on at `l` (R58). -/
def send (b : Byte) (l : Label) (s : State) : Result := whenOpen s (.next (goto l (twrite b s)))

/-! ## Checksum micro-operations and the receive buffer -/

/-- R111: `CsInit`. -/
def csInit (s : State) : State := { s with acc := csSeed }

/-- R112: `CsAbsorb(b)`. -/
def csAbsorb (b : Byte) (s : State) : State := { s with acc := s.acc ^^^ b }

/-- R121: `push(v)`. The index never leaves the buffer (R121); the model faults if it did (log 23). -/
def push (v : Byte) (s : State) : Except Fault State :=
  if s.rxLen.toNat < rxMax then
    .ok (csAbsorb v { s with rxbuf := Memory.write s.rxbuf s.rxLen.toNat v, rxLen := s.rxLen + 1 })
  else .error .rxbIndex

/-- Go on with what a checked buffer access gave, or fault. -/
def orFault {α : Type} (x : Except Fault α) (k : α → Result) : Result :=
  match x with
  | .ok a => k a
  | .error f => .fault f

/-! ## Start, end and return of operations -/

/-- R23: the first label of an operation. -/
def firstLabel : HostOp → Label
  | .nop => .idle
  | .csum => .csuInit
  | .verify => .verInit
  | .chkstate => .chkTx
  | .reset => .rstTop
  | .setaddr => .siaTop
  | .init => .iniOpen
  | .read => .rdDec
  | .write => .wrChk

/-- What an operation does on entry, before its first labelled line: `RESET` and `SETADDR` write `link_state` (R143, R147,
R163). -/
def onEntry : HostOp → State → State
  | .reset, s => setLink .resetting s
  | .setaddr, s => setLink .addressAssigning s
  | _, s => s

/-- R25: the acceptance of a defined code while `busy = 0`. -/
def startOp (op : HostOp) (s : State) : State :=
  onEntry op (emit (.start op) { s with curOp := op, busy := true, seq := firstLabel op })

/-- R25, R95: the acceptance of a reserved code while `busy = 0`; the block stays idle. -/
def rejectCode (c : BitVec 4) (s : State) : State :=
  emit (.illegal c) { s with resOk := false, resCode := .illegalOp }

/-- R190: `finish(ok, code)`, the one way a host operation ends, with an error kind or without. Nothing is saved. -/
def finish (ok : Bool) (code : ResCode) (s : State) : State :=
  emit (.done s.curOp ok code) { s with resOk := ok, resCode := code, busy := false, seq := .idle }

/-- R24: a sub-operation returns `(ok, code)` to the line that called it, which goes on at `l`. No result register is
written, `busy` stays 1, no `Done` event. -/
def returnSub (ok : Bool) (code : ResCode) (l : Label) (s : State) : State :=
  { s with retOk := ok, retCode := code, seq := l }

/-- The end of `RESET`: to the host (R143), or to the line `INI_RST`, which ends `INIT` if it was cancelled (R24, R155). -/
def endReset (ok : Bool) (code : ResCode) (s : State) : State :=
  if s.curOp = .init then
    if code = .cancelled then finish false .cancelled (returnSub ok code .iniRst s) else returnSub ok code .iniSia s
  else finish ok code s

/-- The end of `SETADDR`: to the host (R147), or to the line `INI_SIA`, which ends `INIT` if it was cancelled (R24, R155). -/
def endSetaddr (ok : Bool) (code : ResCode) (s : State) : State :=
  if s.curOp = .init then
    if code = .cancelled then finish false .cancelled (returnSub ok code .iniSia s) else returnSub ok code .iniChk s
  else finish ok code s

/-- The end of `CHKSTATE`: to the host (R140), to `INIT` (R155), or to `READ`, which discards its result (R170, R171). -/
def endChkstate (ok : Bool) (code : ResCode) (s : State) : State :=
  if s.curOp = .init then returnSub ok code .iniEnd s
  else if s.curOp = .read then goto .rdEnd s
  else finish ok code s

/-- R120, R127: `fail(e)` of `DECODE`, which returns to `READ`. The content of `RXB` is unspecified from here on (R51, R127, U5:
any value): every byte of it is a fresh free value (log 6). -/
def decodeFail (e : ResCode) (s : State) : State :=
  returnSub false e .rdSw { s with rxLen := 0, rxbuf := [], rxbEpoch := s.rxbEpoch + 1 }

/-! ## Hardware reset -/

/-- R210, R44, R45: the assertion of `hw_rst`. The transport, the inputs and the parameters are not touched; what R44 leaves
unspecified is a fresh free value. A running operation is abandoned without `finish` (R211). -/
def hwReset (s : State) : State :=
  { s with
    seq := .idle, idx := Config.resetIdx (s.epoch + 1), cnt := Config.resetCnt (s.epoch + 1), busy := false,
    curOp := .nop, acc := Config.resetAcc (s.epoch + 1), chkIn := Config.resetChkIn (s.epoch + 1), txLen := 0, rxLen := 0,
    rxb := Config.resetRxb (s.epoch + 1), echo := Config.resetEcho (s.epoch + 1), txb := [], rxbuf := [],
    linkState := .uninitialized, ia := s.iaStrap, resOk := false, resCode := .none,
    confPol := Config.resetConfPol (s.epoch + 1), events := [], rxTimeout := false, retOk := false, retCode := .none,
    epoch := s.epoch + 1, rxbEpoch := s.rxbEpoch + 1 }

end Sys2Proof.Machine
end

