-- ==== Sys2Proof/Machine/Operands.lean ====
section
/-! DEFINITION. The operands of the operations: the frame in `TXB` (R29, R50), the frame in `RXB` (R30, R51), the bytes of
`IA` (R93), the wire bytes of a format F frame (R87). -/

namespace Sys2Proof.Machine

/-- R50: the first `n` bytes of `TXB`. -/
def State.txbytes (s : State) (n : Nat) : List Byte := (List.range n).map s.txbByte

/-- R29, R50: the frame to transmit, `TXB[0..tx_len)`. -/
def State.txFrame (s : State) : List Byte := s.txbytes s.txLen.toNat

/-- R30, R51: the received frame, `RXB[0..rx_len)`. -/
def State.rxFrame (s : State) : List Byte := (List.range s.rxLen.toNat).map s.rxbByte

/-- R34, R93: `IA[15:8]`, sent first (R54). -/
def State.iaHi (s : State) : Byte := hiByte s.ia

/-- R34, R93: `IA[7:0]`. -/
def State.iaLo (s : State) : Byte := loByte s.ia

/-- R27: the port `csum_out`. -/
def State.csumOut (s : State) : Byte := s.acc

/-- R87: the stored part of a format F frame, control field through payload. -/
def frameBytes (c s1 s2 d1 d2 l : Byte) (p : List Byte) : List Byte := [c, s1, s2, d1, d2, l] ++ p

/-- R121 over a whole frame: byte `k` of `f` goes to `RXB[i + k]`. -/
def writeRun (m : Memory) : Nat → List Byte → Memory
  | _, [] => m
  | i, b :: f => writeRun (Memory.write m i b) (i + 1) f

end Sys2Proof.Machine
end

