-- ==== Sys2Proof/Machine/Flags.lean ====
section
/-! DEFINITION. The tests the engine makes. The block has no flags (R40): each test decides only where the sequencer goes or
what `finish` reports. -/

namespace Sys2Proof.Machine

/-- R114, R115, R125: the validity test on the running accumulator, `(acc XOR c) = 0x00`. -/
def checksumOk (c : Byte) (s : State) : Bool := s.acc ^^^ c == 0x00

/-- R113, R114, R174: another frame byte is left, `idx < tx_len`. -/
def moreToSend (s : State) : Bool := decide (s.idx.toNat < s.txLen.toNat)

/-- R175: `tx_len < 7`. -/
def frameTooShort (s : State) : Bool := decide (s.txLen.toNat < txMin)

/-- R143: the answer latched is `Byte(0x03)`. -/
def ackReceived (s : State) : Bool := !s.rxTimeout && s.rxb == resetAck

/-- R140, R141: the answer latched is `Byte(0x07)`, on all eight bits. -/
def readyReceived (s : State) : Bool := !s.rxTimeout && s.rxb == stateReady

/-- R147, R149, R150: the pair latched is the expected pattern; a timeout counts as a mismatch. -/
def echoReceived (pattern : Pair) (s : State) : Bool := !s.rxTimeout && s.echo == pattern

end Sys2Proof.Machine
end

