-- ==== Sys2Proof/Machine/Codec.lean ====
section
/-! DEFINITION. The frame codec (41_frame_codec.md): the sub-operations `DECODE` (R120) and `ENCODE` (R130), whose bytes the
lines of `WRITE` produce (R174). Each `line…` is one labelled line of the pseudocode, one micro-step (R10). -/

namespace Sys2Proof.Machine

/-- A line that makes one `TRead` and goes on with its answer (R57). -/
def readByte (t : TimeLabel) (s : State) (onTimeout : State → Result) (onByte : Byte → State → Result) : Result :=
  whenOpen s <|
    match tread t s with
    | (.timeout, s') => onTimeout s'
    | (.byte b, s') => onByte b s'

/-- R123: a read of `DECODE` that times out fails with `Timeout`. -/
def readOrFail (s : State) (onByte : Byte → State → Result) : Result :=
  readByte .tShort s (fun s' => .next (decodeFail .timeout s')) onByte

/-- R120: the control field is frame byte 0; four address bytes follow. -/
def takeCtrl (b : Byte) (s : State) : Result :=
  orFault (push b s) fun s' => .next (goto .decAddr { s' with cnt := 4 })

/-- R122: a confirmation, with its polarity. -/
def takeConfirmation (positive : Bool) (s : State) : Result :=
  .next (decodeFail .confirmationOnly { s with confPol := positive })

/-- The end of one turn of `DEC_ADDR` and `DEC_PAY` (R120): push, count down, stay or fall through. -/
def pushCounted (b : Byte) (again after : Label) (s : State) : Result :=
  orFault (push b s) fun s' =>
    .next (goto (if s'.cnt - 1 = 0 then after else again) { s' with cnt := s'.cnt - 1 })

/-- R120: `DEC_CTRL`. -/
def lineDecCtrl (s : State) : Result :=
  readOrFail { csInit s with rxLen := 0 } fun _ s' => .next (goto .decCls s')

/-- R120, R122: `DEC_CLS`, no transport request. -/
def lineDecCls (s : State) : Result :=
  match classify s.rxb with
  | .linkLost => .next (decodeFail .linkLost s)
  | .confNeg => takeConfirmation false s
  | .confPos => takeConfirmation true s
  | .other => .next (decodeFail .malformedControl s)
  | .ctrl => takeCtrl s.rxb s

/-- R120: `DEC_ADDR(cnt)`, one micro-step per iteration. -/
def lineDecAddr (s : State) : Result := readOrFail s fun b s' => pushCounted b .decAddr .decLen s'

/-- R120, R124: `DEC_LEN`. -/
def lineDecLen (s : State) : Result :=
  readOrFail s fun b s' => orFault (push b s') fun s'' => .next (goto .decPay { s'' with cnt := payloadCount b })

/-- R120, R124: `DEC_PAY(cnt)`, one micro-step per iteration. -/
def lineDecPay (s : State) : Result := readOrFail s fun b s' => pushCounted b .decPay .decChk s'

/-- R120: `DEC_CHK`. The checksum byte is latched, not pushed (R121). -/
def lineDecChk (s : State) : Result := readOrFail s fun _ s' => .next (goto .decVfy s')

/-- R120, R125: `DEC_VFY`, no transport request. -/
def lineDecVfy (s : State) : Result :=
  if checksumOk s.rxb s then .next (returnSub true .none .rdSw s) else .next (decodeFail .checksumMismatch s)

/-- R174, R175: `WR_CHK`, before any byte is sent. -/
def lineWrChk (s : State) : Result :=
  if frameTooShort s then .next (finish false .frameTooShort s)
  else .next (goto .wrPfx { csInit s with idx := 0 })

/-- R174, R90, R92: `WR_PFX(idx)`. -/
def lineWrPfx (s : State) : Result :=
  if prefixIndexOk s.idx then send (prefixByte s.idx) .wrDat s else .refused .outsideFormat

/-- R174: a frame byte sent, absorbed and counted; the next pair or the end marker follows. -/
def sendData (d : Byte) (s : State) : Result :=
  whenOpen s <|
    let t := { csAbsorb d (twrite d s) with idx := s.idx + 1 }
    .next (goto (if moreToSend t then .wrPfx else .wrEnd) t)

/-- R174: `WR_DAT(idx)`. -/
def lineWrDat (s : State) : Result := orFault (readTxb s.idx.toNat s) fun b => sendData b s

/-- R174, R91, R92: `WR_END`. -/
def lineWrEnd (s : State) : Result :=
  if endLengthOk s.txLen then send (endByte s.txLen) .wrCs s else .refused .outsideFormat

/-- R174: the checksum sent, and the operation finished. -/
def sendChecksum (k : Byte) (s : State) : Result := whenOpen s (.next (finish true .none (twrite k s)))

/-- R174: `WR_CS`. -/
def lineWrCs (s : State) : Result := sendChecksum s.acc s

/-- `DECODE` (R120): its next micro-step. The host cannot start it (R80): elsewhere it is refused (log 11). -/
def execDecode (s : State) : Result :=
  match s.seq with
  | .decCtrl => lineDecCtrl s
  | .decCls => lineDecCls s
  | .decAddr => lineDecAddr s
  | .decLen => lineDecLen s
  | .decPay => lineDecPay s
  | .decChk => lineDecChk s
  | .decVfy => lineDecVfy s
  | _ => .refused .offPosition

/-- `ENCODE` (R130, R131): its next micro-step, at the lines of `WRITE` that check the length and hand over the bytes. The
host cannot start it (R80): elsewhere it is refused (log 11). -/
def execEncode (s : State) : Result :=
  match s.seq with
  | .wrChk => lineWrChk s
  | .wrPfx => lineWrPfx s
  | .wrDat => lineWrDat s
  | .wrEnd => lineWrEnd s
  | .wrCs => lineWrCs s
  | _ => .refused .offPosition

end Sys2Proof.Machine
end

