-- ==== Sys2Proof/Machine/Bringup.lean ====
section
/-! DEFINITION. The link bring-up state machine (42_link_bringup.md): `CHKSTATE`, `RESET`, `FLUSH`, `SETADDR`, `INIT`. Each
`line…` is one labelled line of the pseudocode, one micro-step (R10). -/

namespace Sys2Proof.Machine

/-- A line that makes one `TRead` and leaves its answer in the latch for the next line (R31). -/
def readLatched (t : TimeLabel) (l : Label) (s : State) : Result :=
  readByte t s (fun s' => .next (goto l s')) (fun _ s' => .next (goto l s'))

/-! ## CHKSTATE -/

/-- R140: `CHK_TX`. -/
def lineChkTx (s : State) : Result := send stateRequest .chkRx (setLink .stateChecking s)

/-- R140: `CHK_RX`. -/
def lineChkRx (s : State) : Result := readLatched .tShort .chkEnd s

/-- R140: the response is 0x07. -/
def takeReady (s : State) : State := endChkstate true .none (setLink .ready s)

/-- R140: `CHK_END`. A wrong byte has no error kind (R37). -/
def lineChkEnd (s : State) : Result :=
  if readyReceived s then .next (takeReady s)
  else if s.rxTimeout then .next (endChkstate false .timeout s)
  else .next (endChkstate false .none s)

/-- `CHKSTATE` (R140): started while the block is idle (R25), its next micro-step while it runs, by itself or called (R24),
ignored while another operation runs (R25, R220). Log 1. -/
def execChkstate (s : State) : Result :=
  if s.busy then
    match s.seq with
    | .chkTx => lineChkTx s
    | .chkRx => lineChkRx s
    | .chkEnd => lineChkEnd s
    | _ => .next s
  else .next (startOp .chkstate s)

/-! ## RESET -/

/-- R143, R160: `RST_TOP`. -/
def lineRstTop (s : State) : Result :=
  if s.cancel then .next (endReset false .cancelled s) else .next (goto .rstTx s)

/-- R143: `RST_TX`. -/
def lineRstTx (s : State) : Result := send resetRequest .rstRx s

/-- R143: `RST_RX`. -/
def lineRstRx (s : State) : Result := readLatched .tReset .rstCmp s

/-- R143: the acknowledgement is 0x03. -/
def takeResetAck (s : State) : State := endReset true .none (setLink .addressAssigning s)

/-- R143, R144: `RST_CMP`. A timeout and a wrong byte are treated alike. -/
def lineRstCmp (s : State) : Result :=
  if ackReceived s then .next (takeResetAck s) else .next (goto .rstTop (emit (.retry .reset) s))

/-- `RESET` (R143), as `CHKSTATE`. -/
def execReset (s : State) : Result :=
  if s.busy then
    match s.seq with
    | .rstTop => lineRstTop s
    | .rstTx => lineRstTx s
    | .rstRx => lineRstRx s
    | .rstCmp => lineRstCmp s
    | _ => .next s
  else .next (startOp .reset s)

/-! ## SETADDR -/

/-- R147, R160: `SIA_TOP`. -/
def lineSiaTop (s : State) : Result :=
  if s.cancel then .next (endSetaddr false .cancelled s) else .next (goto .sia1a s)

/-- R147: `SIA_1A`. -/
def lineSia1a (s : State) : Result := send writeProperty .sia1b s

/-- R147: `SIA_1B`. -/
def lineSia1b (s : State) : Result := send disableValue .sia2a s

/-- R147: `SIA_2A`. -/
def lineSia2a (s : State) : Result := send readProperty .sia2b s

/-- R59, R147: the first `TRead` of a `TReadN(2)`. A timeout ends the `TReadN`. -/
def readEchoFirst (second cmp : Label) (s : State) : Result :=
  readByte .tShort s (fun s' => .next (goto cmp s'))
    (fun b s' => .next (goto second { s' with echo := pairOf b (loByte s'.echo) }))

/-- R59, R147: the second `TRead` of a `TReadN(2)`. -/
def readEchoSecond (cmp : Label) (s : State) : Result :=
  readByte .tShort s (fun s' => .next (goto cmp s'))
    (fun b s' => .next (goto cmp { s' with echo := pairOf (hiByte s'.echo) b }))

/-- R147: `SIA_2B`, its first read. -/
def lineSia2b (s : State) : Result := readEchoFirst .sia2bSecond .sia2c s

/-- R147: `SIA_2B`, its second read. -/
def lineSia2bSecond (s : State) : Result := readEchoSecond .sia2c s

/-- R147, R150: `SIA_2C`. -/
def lineSia2c (s : State) : Result :=
  .next (goto (if echoReceived s.siaEcho1 s then .sia3a else .siaFail) s)

/-- R147: `SIA_3A`. -/
def lineSia3a (s : State) : Result := send writeAddrHi .sia3b s

/-- R147, R93: `SIA_3B`. -/
def lineSia3b (s : State) : Result := send s.iaHi .sia4a s

/-- R147: `SIA_4A`. -/
def lineSia4a (s : State) : Result := send writeAddrLo .sia4b s

/-- R147, R93: `SIA_4B`. -/
def lineSia4b (s : State) : Result := send s.iaLo .sia5a s

/-- R147: `SIA_5A`. -/
def lineSia5a (s : State) : Result := send writeProperty .sia5b s

/-- R147: `SIA_5B`. -/
def lineSia5b (s : State) : Result := send enableValue .sia5c s

/-- R147, R152: `SIA_5C`. -/
def lineSia5c (s : State) : Result := .next (goto .sia6a (tdelay .tSettle s))

/-- R147: `SIA_6A`. -/
def lineSia6a (s : State) : Result := send readProperty .sia6b s

/-- R147: `SIA_6B`, its first read. -/
def lineSia6b (s : State) : Result := readEchoFirst .sia6bSecond .sia6c s

/-- R147: `SIA_6B`, its second read. -/
def lineSia6bSecond (s : State) : Result := readEchoSecond .sia6c s

/-- R147: the second echo matched. -/
def takeSecondEcho (s : State) : State := endSetaddr true .none (setLink .stateChecking s)

/-- R147, R150: `SIA_6C`. -/
def lineSia6c (s : State) : Result :=
  if echoReceived s.siaEcho2 s then .next (takeSecondEcho s) else .next (goto .siaFail s)

/-- R146, R151: `FLUSH`, a request with the label `T_FLUSH`. -/
def flushInput (s : State) (k : State → State) : Result := whenOpen s (.next (k (tflush .tFlush s)))

/-- R147, R151: `SIA_FAIL`. -/
def lineSiaFail (s : State) : Result := flushInput s fun t => goto .siaTop (emit (.retry .setaddr) t)

/-- `FLUSH` (R146): one `TFlush(T_FLUSH)`, with no label of its own (R23), no result and no failure. -/
def execFlush (s : State) : Result := flushInput s fun t => t

/-- `SETADDR` (R147), as `CHKSTATE`. -/
def execSetaddr (s : State) : Result :=
  if s.busy then
    match s.seq with
    | .siaTop => lineSiaTop s
    | .sia1a => lineSia1a s
    | .sia1b => lineSia1b s
    | .sia2a => lineSia2a s
    | .sia2b => lineSia2b s
    | .sia2bSecond => lineSia2bSecond s
    | .sia2c => lineSia2c s
    | .sia3a => lineSia3a s
    | .sia3b => lineSia3b s
    | .sia4a => lineSia4a s
    | .sia4b => lineSia4b s
    | .sia5a => lineSia5a s
    | .sia5b => lineSia5b s
    | .sia5c => lineSia5c s
    | .sia6a => lineSia6a s
    | .sia6b => lineSia6b s
    | .sia6bSecond => lineSia6bSecond s
    | .sia6c => lineSia6c s
    | .siaFail => lineSiaFail s
    | _ => .next s
  else .next (startOp .setaddr s)

/-! ## INIT -/

/-- R155, R156: `INI_OPEN`. -/
def lineIniOpen (s : State) : Result :=
  match tisOpen s with
  | (true, s') => .next (goto .iniCfg s')
  | (false, s') => .next (finish false .transportNotOpen s')

/-- R155, R157, R63: `INI_CFG`. -/
def lineIniCfg (s : State) : Result := whenOpen s (.next (goto .iniTop (tconfigure fixedLine s)))

/-- R155, R160: `INI_TOP`. -/
def lineIniTop (s : State) : Result :=
  if s.cancel then .next (finish false .cancelled s) else .next (goto .iniRst s)

/-- R155: `INI_RST`, the call of `RESET` with its entry (R143). What the line does after the return is in `endReset`. -/
def lineIniRst (s : State) : Result := .next (goto .rstTop (setLink .resetting s))

/-- R155: `INI_SIA`, the call of `SETADDR` with its entry (R147). What the line does after the return is in `endSetaddr`. -/
def lineIniSia (s : State) : Result := .next (goto .siaTop (setLink .addressAssigning s))

/-- R155: `INI_CHK`, the call of `CHKSTATE`. -/
def lineIniChk (s : State) : Result := .next (goto .chkTx s)

/-- R155, R158: `INI_END`. The retry goes back to `RESET`. -/
def lineIniEnd (s : State) : Result :=
  if s.retOk then .next (finish true .none s) else .next (goto .iniTop (emit (.retry .init) s))

/-- `INIT` (R155), as `CHKSTATE`. While it has called `RESET`, `SETADDR` or `CHKSTATE` the micro-steps are theirs (R24). -/
def execInit (s : State) : Result :=
  if s.busy then
    match s.seq with
    | .iniOpen => lineIniOpen s
    | .iniCfg => lineIniCfg s
    | .iniTop => lineIniTop s
    | .iniRst => lineIniRst s
    | .iniSia => lineIniSia s
    | .iniChk => lineIniChk s
    | .iniEnd => lineIniEnd s
    | _ => .next s
  else .next (startOp .init s)

end Sys2Proof.Machine
end

