-- ==== Sys2Proof/Machine/Checksum.lean ====
section
/-! DEFINITION. The checksum engine (40_checksum.md): the micro-operations `CsInit`, `CsAbsorb` and the host operations `CSUM`,
`VERIFY`. Each `line…` is one labelled line of the pseudocode, one micro-step (R10). -/

namespace Sys2Proof.Machine

/-- The first line of `CSUM` and `VERIFY` (R113, R114): `CsInit; idx <- 0`. -/
def foldInit (loop : Label) (s : State) : Result := .next (goto loop { csInit s with idx := 0 })

/-- The loop line of `CSUM` and `VERIFY` (R113, R114). The test that ends the loop is a micro-step of its own (log 24). -/
def foldLoop (loop done : Label) (s : State) : Result :=
  if moreToSend s then
    orFault (readTxb s.idx.toNat s) fun b => .next (goto loop { csAbsorb b s with idx := s.idx + 1 })
  else .next (goto done s)

/-- R113: `CSU_INIT`. -/
def lineCsuInit (s : State) : Result := foldInit .csuLoop s

/-- R113: `CSU_LOOP(idx)`. -/
def lineCsuLoop (s : State) : Result := foldLoop .csuLoop .csuEnd s

/-- R113: `CSU_END`. -/
def lineCsuEnd (s : State) : Result := .next (finish true .none s)

/-- R114: `VER_INIT`. -/
def lineVerInit (s : State) : Result := foldInit .verLoop s

/-- R114: `VER_LOOP(idx)`. -/
def lineVerLoop (s : State) : Result := foldLoop .verLoop .verEnd s

/-- R114: `VER_END`. A false verdict has no error kind (R37); `chk_in` is not absorbed. -/
def lineVerEnd (s : State) : Result := .next (finish (checksumOk s.chkIn s) .none s)

/-- `CSUM` (R113): started while the block is idle (R25), its next micro-step while it runs, ignored while another operation
runs (R25, R220). Log 1. -/
def execCsum (s : State) : Result :=
  if s.busy then
    match s.seq with
    | .csuInit => lineCsuInit s
    | .csuLoop => lineCsuLoop s
    | .csuEnd => lineCsuEnd s
    | _ => .next s
  else .next (startOp .csum s)

/-- `VERIFY` (R114), as `CSUM`. -/
def execVerify (s : State) : Result :=
  if s.busy then
    match s.seq with
    | .verInit => lineVerInit s
    | .verLoop => lineVerLoop s
    | .verEnd => lineVerEnd s
    | _ => .next s
  else .next (startOp .verify s)

/-- `CsInit` (R111): `acc <- 0xFF`, a part of other lines, with no label of its own (R23). -/
def execCsInit (s : State) : Result := .next (csInit s)

/-- `CsAbsorb(b)` (R112): `acc <- acc XOR b`, a part of other lines, with no label of its own (R23). -/
def execCsAbsorb (b : Byte) (s : State) : Result := .next (csAbsorb b s)

end Sys2Proof.Machine
end

