-- ==== Sys2Proof/Machine/HostCodes.lean ====
section
/-! DEFINITION. The host codes that start no operation: `NOP` and the reserved codes (R25, R95). -/

namespace Sys2Proof.Machine

/-- `NOP` (R25, R95): nothing happens, no event. -/
def execNop (s : State) : Result := .next s

/-- R25, R95: a reserved code while the block is idle; while an operation runs, `op_start` is ignored (R220). -/
def startReserved (c : BitVec 4) (s : State) : Result := if s.busy then .next s else .next (rejectCode c s)

/-- `RESERVED_9` (R95). -/
def execReserved9 (s : State) : Result := startReserved 0x9 s

/-- `RESERVED_A` (R95). -/
def execReservedA (s : State) : Result := startReserved 0xA s

/-- `RESERVED_B` (R95). -/
def execReservedB (s : State) : Result := startReserved 0xB s

/-- `RESERVED_C` (R95). -/
def execReservedC (s : State) : Result := startReserved 0xC s

/-- `RESERVED_D` (R95). -/
def execReservedD (s : State) : Result := startReserved 0xD s

/-- `RESERVED_E` (R95). -/
def execReservedE (s : State) : Result := startReserved 0xE s

/-- `RESERVED_F` (R95). -/
def execReservedF (s : State) : Result := startReserved 0xF s

end Sys2Proof.Machine
end

