-- ==== Sys2Proof/Machine/RxBytes.lean ====
section
/-! DEFINITION. The bytes of the RX direction (R85 to R89): what the engine does with each one at the position where it is
an instruction. At another label it is no instruction (R81, R87) and is refused (log 11). -/

namespace Sys2Proof.Machine

/-- R81: `r` at the label `l`, a refusal elsewhere. -/
def atLabel (l : Label) (s : State) (r : Result) : Result := if s.seq = l then r else .refused .offPosition

/-- `RX_LINKLOST` (R85, R122) at `DEC_CLS`. -/
def execRxLinklost (s : State) : Result := atLabel .decCls s (.next (decodeFail .linkLost s))

/-- `RX_CONF_NEG` (R85, R122) at `DEC_CLS`. -/
def execRxConfNeg (s : State) : Result := atLabel .decCls s (takeConfirmation false s)

/-- `RX_CONF_POS` (R85, R122) at `DEC_CLS`. -/
def execRxConfPos (s : State) : Result := atLabel .decCls s (takeConfirmation true s)

/-- `RX_CTRL` (R85, R86, R120) at `DEC_CLS`: the byte is frame byte 0. A byte of another class is none (log 12). -/
def execRxCtrl (b : Byte) (s : State) : Result :=
  atLabel .decCls s (if isCtrl b then takeCtrl b s else .refused .outsideFormat)

/-- `RX_OTHER` (R85, R96) at `DEC_CLS`. A byte of another class is none (log 12). -/
def execRxOther (b : Byte) (s : State) : Result :=
  atLabel .decCls s <|
    if classify b = .other then .next (decodeFail .malformedControl s) else .refused .outsideFormat

/-- R87, R121: a frame `f` and its checksum byte `k` received by `DECODE`: `f` stored and folded, `k` latched. -/
def storeFrame (f : List Byte) (k : Byte) (s : State) : State :=
  { s with
    acc := cs f, rxLen := BitVec.ofNat 5 f.length, rxbuf := writeRun s.rxbuf 0 f, cnt := 0, rxb := k, rxTimeout := false,
    events := s.events ++ (f ++ [k]).map .rx }

/-- `RX_FRAME` (R87) at `DEC_CTRL`: the whole reception of the frame by `DECODE`, in one step (log 19). The checksum decides
between the frame and `ChecksumMismatch` (R125). -/
def execRxFrame (c s1 s2 d1 d2 l : Byte) (p : List Byte) (k : Byte) (s : State) : Result :=
  atLabel .decCtrl s <|
    if isCtrl c && p.length == (payloadCount l).toNat then
      whenOpen s <|
        let t := storeFrame (frameBytes c s1 s2 d1 d2 l p) k s
        if checksumOk k t then .next (returnSub true .none .rdSw t) else .next (decodeFail .checksumMismatch t)
    else .refused .outsideFormat

/-- `RX_RESET_ACK` (R89, R143) at `RST_CMP`. -/
def execRxResetAck (s : State) : Result := atLabel .rstCmp s (.next (takeResetAck s))

/-- `RX_STATE_READY` (R89, R140) at `CHK_END`. -/
def execRxStateReady (s : State) : Result := atLabel .chkEnd s (.next (takeReady s))

/-- `RX_SIA_ECHO1` (R89, R149) at `SIA_2C`: the pair received is compared with the parameter. -/
def execRxSiaEcho1 (e : Pair) (s : State) : Result :=
  atLabel .sia2c s (.next (goto (if e = s.siaEcho1 then .sia3a else .siaFail) s))

/-- `RX_SIA_ECHO2` (R89, R149) at `SIA_6C`: the pair received is compared with the parameter. -/
def execRxSiaEcho2 (e : Pair) (s : State) : Result :=
  atLabel .sia6c s (if e = s.siaEcho2 then .next (takeSecondEcho s) else .next (goto .siaFail s))

end Sys2Proof.Machine
end

