-- ==== Sys2Proof/Machine/Steady.lean ====
section
/-! DEFINITION. The steady-state operations `READ` and `WRITE` (43_steady_state.md). Each `line…` is one labelled line of the
pseudocode, one micro-step (R10). The lines of `WRITE` stand in Codec.lean, since they are the steps of `ENCODE` (R130). -/

namespace Sys2Proof.Machine

/-- R170: `RD_DEC`, the call of `DECODE`. -/
def lineRdDec (s : State) : Result := .next (goto .decCtrl s)

/-- R170: `RD_SW`. -/
def lineRdSw (s : State) : Result := .next (goto (if s.retCode = .linkLost then .rdLost else .rdEnd) s)

/-- R170, R171: `RD_LOST`, the call of `CHKSTATE`, whose result is discarded. -/
def lineRdLost (s : State) : Result := .next (goto .chkTx s)

/-- R170: `RD_END`, with what `DECODE` returned. -/
def lineRdEnd (s : State) : Result := .next (finish s.retOk s.retCode s)

/-- `READ` (R170): started while the block is idle (R25), its next micro-step while it runs, ignored while another operation
runs (R25, R220). While it has called `DECODE` or `CHKSTATE` the micro-steps are theirs (R24). Log 1. -/
def execRead (s : State) : Result :=
  if s.busy then
    match s.seq with
    | .rdDec => lineRdDec s
    | .rdSw => lineRdSw s
    | .rdLost => lineRdLost s
    | .rdEnd => lineRdEnd s
    | _ => .next s
  else .next (startOp .read s)

/-- `WRITE` (R174), as `READ`. Its lines are those of `ENCODE`. -/
def execWrite (s : State) : Result :=
  if s.busy then
    match s.seq with
    | .wrChk => lineWrChk s
    | .wrPfx => lineWrPfx s
    | .wrDat => lineWrDat s
    | .wrEnd => lineWrEnd s
    | .wrCs => lineWrCs s
    | _ => .next s
  else .next (startOp .write s)

end Sys2Proof.Machine
end

