-- ==== Sys2Proof/Machine/TxBytes.lean ====
section
/-! DEFINITION. The bytes of the TX direction (R83): the micro-step that sends each one, at the labels where it is sent (R82,
R84). At another label the block sends no such byte (R84) and it is refused (log 11). -/

namespace Sys2Proof.Machine

/-- `TX_RESET_REQ` (R82, R143) at `RST_TX`. -/
def execTxResetReq (s : State) : Result :=
  match s.seq with
  | .rstTx => send resetRequest .rstRx s
  | _ => .refused .offPosition

/-- `TX_STATE_REQ` (R82, R140) at `CHK_TX`, which also writes `link_state`. -/
def execTxStateReq (s : State) : Result :=
  match s.seq with
  | .chkTx => send stateRequest .chkRx (setLink .stateChecking s)
  | _ => .refused .offPosition

/-- `TX_WRITE_PROP` (R82, R147) at `SIA_1A` and `SIA_5A`. -/
def execTxWriteProp (s : State) : Result :=
  match s.seq with
  | .sia1a => send writeProperty .sia1b s
  | .sia5a => send writeProperty .sia5b s
  | _ => .refused .offPosition

/-- `TX_READ_PROP` (R82, R147) at `SIA_2A` and `SIA_6A`. -/
def execTxReadProp (s : State) : Result :=
  match s.seq with
  | .sia2a => send readProperty .sia2b s
  | .sia6a => send readProperty .sia6b s
  | _ => .refused .offPosition

/-- `TX_ADDR_HI` (R82, R147) at `SIA_3A`. -/
def execTxAddrHi (s : State) : Result :=
  match s.seq with
  | .sia3a => send writeAddrHi .sia3b s
  | _ => .refused .offPosition

/-- `TX_ADDR_LO` (R82, R147) at `SIA_4A`. -/
def execTxAddrLo (s : State) : Result :=
  match s.seq with
  | .sia4a => send writeAddrLo .sia4b s
  | _ => .refused .offPosition

/-- `TX_VALUE` (R83, R147, R148): the value byte after a write command, at `SIA_1B`, `SIA_3B`, `SIA_4B`, `SIA_5B`. -/
def execTxValue (v : Byte) (s : State) : Result :=
  match s.seq with
  | .sia1b => send v .sia2a s
  | .sia3b => send v .sia4a s
  | .sia4b => send v .sia5a s
  | .sia5b => send v .sia5c s
  | _ => .refused .offPosition

/-- `TX_PREFIX` (R90, R92, R174) at `WR_PFX`. -/
def execTxPrefix (i : BitVec 6) (s : State) : Result :=
  match s.seq with
  | .wrPfx => if prefixIndexOk i then send (prefixByte i) .wrDat s else .refused .outsideFormat
  | _ => .refused .offPosition

/-- `TX_DATA` (R130, R174) at `WR_DAT`: sent, absorbed, counted. -/
def execTxData (d : Byte) (s : State) : Result :=
  match s.seq with
  | .wrDat => sendData d s
  | _ => .refused .offPosition

/-- `TX_END` (R91, R92, R174) at `WR_END`. -/
def execTxEnd (n : BitVec 6) (s : State) : Result :=
  match s.seq with
  | .wrEnd => if endLengthOk n then send (endByte n) .wrCs s else .refused .outsideFormat
  | _ => .refused .offPosition

/-- `TX_CHECKSUM` (R130, R174) at `WR_CS`: the last byte of a `WRITE`, which it finishes. -/
def execTxChecksum (k : Byte) (s : State) : Result :=
  match s.seq with
  | .wrCs => sendChecksum k s
  | _ => .refused .offPosition

end Sys2Proof.Machine
end

