-- ==== Sys2Proof/Machine/Dispatch.lean ====
section
/-! DEFINITION. The dispatch: one arm per constructor of Instr. -/

namespace Sys2Proof.Machine

-- What an instruction does in a state: one micro-step (R10, log 1).
def exec (i : Instr) (s : State) : Host.Outcome State Fault Refusal :=
  match i with
  | .nop => Sys2Proof.Machine.execNop s
  | .csum => Sys2Proof.Machine.execCsum s
  | .verify => Sys2Proof.Machine.execVerify s
  | .chkstate => Sys2Proof.Machine.execChkstate s
  | .reset => Sys2Proof.Machine.execReset s
  | .setaddr => Sys2Proof.Machine.execSetaddr s
  | .init => Sys2Proof.Machine.execInit s
  | .read => Sys2Proof.Machine.execRead s
  | .write => Sys2Proof.Machine.execWrite s
  | .reserved9 => Sys2Proof.Machine.execReserved9 s
  | .reservedA => Sys2Proof.Machine.execReservedA s
  | .reservedB => Sys2Proof.Machine.execReservedB s
  | .reservedC => Sys2Proof.Machine.execReservedC s
  | .reservedD => Sys2Proof.Machine.execReservedD s
  | .reservedE => Sys2Proof.Machine.execReservedE s
  | .reservedF => Sys2Proof.Machine.execReservedF s
  | .decode => Sys2Proof.Machine.execDecode s
  | .encode => Sys2Proof.Machine.execEncode s
  | .flush => Sys2Proof.Machine.execFlush s
  | .csInit => Sys2Proof.Machine.execCsInit s
  | .csAbsorb b => Sys2Proof.Machine.execCsAbsorb b s
  | .rxLinklost => Sys2Proof.Machine.execRxLinklost s
  | .rxConfNeg => Sys2Proof.Machine.execRxConfNeg s
  | .rxConfPos => Sys2Proof.Machine.execRxConfPos s
  | .rxCtrl b => Sys2Proof.Machine.execRxCtrl b s
  | .rxOther b => Sys2Proof.Machine.execRxOther b s
  | .rxFrame c sh sl dh dl l p k => Sys2Proof.Machine.execRxFrame c sh sl dh dl l p k s
  | .rxResetAck => Sys2Proof.Machine.execRxResetAck s
  | .rxStateReady => Sys2Proof.Machine.execRxStateReady s
  | .rxSiaEcho1 e => Sys2Proof.Machine.execRxSiaEcho1 e s
  | .rxSiaEcho2 e => Sys2Proof.Machine.execRxSiaEcho2 e s
  | .txResetReq => Sys2Proof.Machine.execTxResetReq s
  | .txStateReq => Sys2Proof.Machine.execTxStateReq s
  | .txWriteProp => Sys2Proof.Machine.execTxWriteProp s
  | .txReadProp => Sys2Proof.Machine.execTxReadProp s
  | .txAddrHi => Sys2Proof.Machine.execTxAddrHi s
  | .txAddrLo => Sys2Proof.Machine.execTxAddrLo s
  | .txValue v => Sys2Proof.Machine.execTxValue v s
  | .txPrefix n => Sys2Proof.Machine.execTxPrefix n s
  | .txData d => Sys2Proof.Machine.execTxData d s
  | .txEnd n => Sys2Proof.Machine.execTxEnd n s
  | .txChecksum k => Sys2Proof.Machine.execTxChecksum k s

end Sys2Proof.Machine
end

