-- ==== Sys2Proof/WellFormed.lean ====
section
/-! DEFINITION. Which terms of Instr are instructions: the operand ranges of the wire formats. -/

namespace Sys2Proof

open Sys2Proof.Machine

/-- The check of an instruction's operands. R86: the control byte of `RX_CTRL` and `RX_FRAME`; R96: the byte of `RX_OTHER`;
R88, R99: the payload count of `RX_FRAME`; R90, R92: the index of `TX_PREFIX`; R91, R92: the length of `TX_END`. Every
other operand admits all its values (R83). -/
def Instr.wf : Instr → Bool
  | .nop | .csum | .verify | .chkstate | .reset | .setaddr | .init | .read | .write => true
  | .reserved9 | .reservedA | .reservedB | .reservedC | .reservedD | .reservedE | .reservedF => true
  | .decode | .encode | .flush | .csInit | .csAbsorb _ => true
  | .rxLinklost | .rxConfNeg | .rxConfPos => true
  | .rxCtrl b => isCtrl b
  | .rxOther b => classify b == .other
  | .rxFrame c _ _ _ _ daf p _ => isCtrl c && p.length == (payloadCount daf).toNat
  | .rxResetAck | .rxStateReady | .rxSiaEcho1 _ | .rxSiaEcho2 _ => true
  | .txResetReq | .txStateReq | .txWriteProp | .txReadProp | .txAddrHi | .txAddrLo | .txValue _ => true
  | .txPrefix i => prefixIndexOk i
  | .txData _ => true
  | .txEnd n => endLengthOk n
  | .txChecksum _ => true

end Sys2Proof
end

