-- ==== Sys2Proof/Decode.lean ====
section
/-! DEFINITION. Decoding, total on any bytes at any position and rejecting by name, and after it the encoder. The meaning
of a byte depends on its direction and on where in an operation it occurs (R81), so the position is an argument. -/

namespace Sys2Proof

open Sys2Proof.Machine

/-- R81, R83, R85, R89: the positions at which a byte, or a run of bytes, is taken as an instruction. -/
inductive Position where
  /-- Format H: the code on `op_code` (R80). -/
  | opCode
  /-- Format S: the first byte of a `DECODE` (R85). -/
  | firstByte
  /-- Format F: a frame from its control field on (R87). -/
  | frame
  /-- Format R at `RST_CMP`. -/
  | resetResponse
  /-- Format R at `CHK_END`. -/
  | stateResponse
  /-- Format R at `SIA_2C`. -/
  | echoFirst
  /-- Format R at `SIA_6C`. -/
  | echoSecond
  /-- Format C. -/
  | command
  /-- Format V. -/
  | value
  /-- Format P. -/
  | dataPrefix
  /-- Format D. -/
  | data
  /-- Format E. -/
  | endMark
  /-- Format K. -/
  | checksum
deriving DecidableEq, Repr

/-- Why bytes are no instruction at a position. -/
inductive DecodeError where
  /-- Fewer bytes than the format has. -/
  | truncated
  /-- R80: an `op_code` has 4 bits. -/
  | wideOpCode (b : Byte)
  /-- R87: position 0 of a frame is a control field. -/
  | notControlField (b : Byte)
  /-- R89: any other value is a mismatch. -/
  | responseMismatch (b : Byte)
  /-- R83: not one of the six command bytes. -/
  | notACommand (b : Byte)
  /-- R83, R92: not 0x80 to 0xBE. -/
  | notAPrefix (b : Byte)
  /-- R83, R92: not 0x47 to 0x7F. -/
  | notAnEndMarker (b : Byte)
deriving DecidableEq, Repr

/-- What decoding answers: the instruction and the bytes after it, or a rejection by name. -/
inductive Decoded where
  | ok (i : Instr) (rest : List Byte)
  | rejected (e : DecodeError)
deriving DecidableEq, Repr

/-- R80, R95: the sixteen codes of format H. -/
def decodeOpCode (c : BitVec 4) : Instr :=
  match c.toNat with
  | 0 => .nop
  | 1 => .csum
  | 2 => .verify
  | 3 => .chkstate
  | 4 => .reset
  | 5 => .setaddr
  | 6 => .init
  | 7 => .read
  | 8 => .write
  | 9 => .reserved9
  | 10 => .reservedA
  | 11 => .reservedB
  | 12 => .reservedC
  | 13 => .reservedD
  | 14 => .reservedE
  | _ => .reservedF

/-- R85: format S, total on the 256 bytes. -/
def decodeFirstByte (b : Byte) : Instr :=
  match classify b with
  | .linkLost => .rxLinklost
  | .confNeg => .rxConfNeg
  | .confPos => .rxConfPos
  | .ctrl => .rxCtrl b
  | .other => .rxOther b

/-- R82, R83: format C. -/
def decodeCommand (b : Byte) : Option Instr :=
  if b = resetRequest then some .txResetReq
  else if b = stateRequest then some .txStateReq
  else if b = writeProperty then some .txWriteProp
  else if b = readProperty then some .txReadProp
  else if b = writeAddrHi then some .txAddrHi
  else if b = writeAddrLo then some .txAddrLo
  else none

/-- R87, R88, R99: format F. The length byte tells how many payload bytes follow; one checksum byte ends the frame. -/
def decodeFrameBytes : List Byte → Decoded
  | c :: s1 :: s2 :: d1 :: d2 :: l :: tail =>
    if isCtrl c then
      let n := (payloadCount l).toNat
      match tail.drop n with
      | k :: rest => .ok (.rxFrame c s1 s2 d1 d2 l (tail.take n) k) rest
      | [] => .rejected .truncated
    else .rejected (.notControlField c)
  | _ => .rejected .truncated

/-- The decoder: the instruction that bytes are at a position. -/
def decodeAt (p : Position) (bs : List Byte) : Decoded :=
  match p, bs with
  | .frame, bs => decodeFrameBytes bs
  | .echoFirst, h :: l :: rest => .ok (.rxSiaEcho1 (pairOf h l)) rest
  | .echoSecond, h :: l :: rest => .ok (.rxSiaEcho2 (pairOf h l)) rest
  | .echoFirst, _ => .rejected .truncated
  | .echoSecond, _ => .rejected .truncated
  | _, [] => .rejected .truncated
  | .opCode, b :: rest => if b.toNat < 16 then .ok (decodeOpCode (b.setWidth 4)) rest else .rejected (.wideOpCode b)
  | .firstByte, b :: rest => .ok (decodeFirstByte b) rest
  | .resetResponse, b :: rest => if b = resetAck then .ok .rxResetAck rest else .rejected (.responseMismatch b)
  | .stateResponse, b :: rest => if b = stateReady then .ok .rxStateReady rest else .rejected (.responseMismatch b)
  | .command, b :: rest =>
    match decodeCommand b with
    | some i => .ok i rest
    | none => .rejected (.notACommand b)
  | .value, b :: rest => .ok (.txValue b) rest
  | .dataPrefix, b :: rest =>
    if b.extractLsb' 6 2 = 2 ∧ prefixIndexOk (b.setWidth 6) then .ok (.txPrefix (b.setWidth 6)) rest
    else .rejected (.notAPrefix b)
  | .data, b :: rest => .ok (.txData b) rest
  | .endMark, b :: rest =>
    if b.extractLsb' 6 2 = 1 ∧ endLengthOk (b.setWidth 6) then .ok (.txEnd (b.setWidth 6)) rest
    else .rejected (.notAnEndMarker b)
  | .checksum, b :: rest => .ok (.txChecksum b) rest

/-- The position an instruction is encoded for; none for the internal sub-operations, which have no code (R80). -/
def Instr.position : Instr → Option Position
  | .nop | .csum | .verify | .chkstate | .reset | .setaddr | .init | .read | .write => some .opCode
  | .reserved9 | .reservedA | .reservedB | .reservedC | .reservedD | .reservedE | .reservedF => some .opCode
  | .decode | .encode | .flush | .csInit | .csAbsorb _ => none
  | .rxLinklost | .rxConfNeg | .rxConfPos | .rxCtrl _ | .rxOther _ => some .firstByte
  | .rxFrame _ _ _ _ _ _ _ _ => some .frame
  | .rxResetAck => some .resetResponse
  | .rxStateReady => some .stateResponse
  | .rxSiaEcho1 _ => some .echoFirst
  | .rxSiaEcho2 _ => some .echoSecond
  | .txResetReq | .txStateReq | .txWriteProp | .txReadProp | .txAddrHi | .txAddrLo => some .command
  | .txValue _ => some .value
  | .txPrefix _ => some .dataPrefix
  | .txData _ => some .data
  | .txEnd _ => some .endMark
  | .txChecksum _ => some .checksum

/-- The encoder: the bytes of an instruction at its position, an `op_code` in the low half of one byte. The internal
sub-operations have none (R80). -/
def encode : Instr → List Byte
  | .nop => [0x00]
  | .csum => [0x01]
  | .verify => [0x02]
  | .chkstate => [0x03]
  | .reset => [0x04]
  | .setaddr => [0x05]
  | .init => [0x06]
  | .read => [0x07]
  | .write => [0x08]
  | .reserved9 => [0x09]
  | .reservedA => [0x0A]
  | .reservedB => [0x0B]
  | .reservedC => [0x0C]
  | .reservedD => [0x0D]
  | .reservedE => [0x0E]
  | .reservedF => [0x0F]
  | .decode => []
  | .encode => []
  | .flush => []
  | .csInit => []
  | .csAbsorb _ => []
  | .rxLinklost => [busLost]
  | .rxConfNeg => [confNegative]
  | .rxConfPos => [confPositive]
  | .rxCtrl b => [b]
  | .rxOther b => [b]
  | .rxFrame c s1 s2 d1 d2 l p k => [c, s1, s2, d1, d2, l] ++ p ++ [k]
  | .rxResetAck => [resetAck]
  | .rxStateReady => [stateReady]
  | .rxSiaEcho1 e => [hiByte e, loByte e]
  | .rxSiaEcho2 e => [hiByte e, loByte e]
  | .txResetReq => [resetRequest]
  | .txStateReq => [stateRequest]
  | .txWriteProp => [writeProperty]
  | .txReadProp => [readProperty]
  | .txAddrHi => [writeAddrHi]
  | .txAddrLo => [writeAddrLo]
  | .txValue v => [v]
  | .txPrefix i => [prefixByte i]
  | .txData d => [d]
  | .txEnd n => [endByte n]
  | .txChecksum k => [k]

/-! ## Words of the opcode table, which do not say their position -/

/-- The bytes of a word numbered as the table numbers them, the first byte in the lowest bits. -/
def wordBytes : Nat → Nat → List Byte
  | 0, _ => []
  | n + 1, w => BitVec.ofNat 8 w :: wordBytes n (w / 256)

/-- The positions of the table's rows that have a match value and a mask, in the table's order. Log 13. -/
def tablePositions : List Position :=
  [.opCode, .firstByte, .resetResponse, .stateResponse, .command, .dataPrefix, .endMark]

/-- `RX_OTHER` has no match value in the table: it stands for the bytes that no other row of its format matches. -/
def Instr.isOther : Instr → Bool
  | .rxOther _ => true
  | _ => false

/-- The first row of the table, in its order, whose match value a byte meets. -/
def firstRow : List Position → Byte → Option Instr
  | [], _ => none
  | p :: ps, b =>
    match decodeAt p [b] with
    | .ok i _ => if i.isOther then firstRow ps b else some i
    | .rejected _ => firstRow ps b

/-- The instruction the decoder reads from a word of the table, whose position the word itself does not say: one byte is
the first row that it matches and `RX_OTHER` where it matches none, two bytes are the first echo pair, more are a frame (of at most 23 bytes, R99, those above the word being 0). Log 13. -/
def decodeTableWord (nbits w : Nat) : Option Instr :=
  match wordBytes ((nbits + 7) / 8) w with
  | [] => none
  | [b] => some ((firstRow tablePositions b).getD (decodeFirstByte b))
  | [h, l] => some (.rxSiaEcho1 (pairOf h l))
  | _ =>
    match decodeAt .frame (wordBytes 23 w) with
    | .ok i _ => some i
    | .rejected _ => none

end Sys2Proof
end

