-- ==== Sys2Proof/Machine/Sequencer.lean ====
section
/-! DEFINITION. Whose turn it is and what runs: the label of the sequencer selects the engine's instruction (R22, R23), a pulse
of `op_start` the host's (R25), and the other moves of host and platform act on the ports (R21, R32). -/

namespace Sys2Proof.Machine

/-- What a turn is: an instruction to run in a state, or a move that is already made. -/
inductive Turn where
  | run (i : Instr) (s : State)
  | settled (s : State)
deriving DecidableEq, Repr

/-- R89: the response latched at position `p`, or the operation `i` that treats a mismatch and a timeout. -/
def responseOr (p : Position) (i : Instr) (s : State) : Instr :=
  if s.rxTimeout then i
  else
    match decodeAt p [s.rxb] with
    | .ok j _ => j
    | .rejected _ => i

/-- R149, R150: the pair latched, or the operation `i` that treats a timeout. -/
def echoOr (p : Position) (i : Instr) (s : State) : Instr :=
  if s.rxTimeout then i
  else
    match decodeAt p [hiByte s.echo, loByte s.echo] with
    | .ok j _ => j
    | .rejected _ => i

/-- R22, R23, R81, R84: the instruction the engine's next micro-step runs: the byte taken or sent where the label takes or
sends one, else the operation whose line it is. -/
def fetchMicro (s : State) : Instr :=
  match s.seq with
  | .idle => .nop
  | .csuInit | .csuLoop | .csuEnd => .csum
  | .verInit | .verLoop | .verEnd => .verify
  | .chkTx => .txStateReq
  | .chkRx => .chkstate
  | .chkEnd => responseOr .stateResponse .chkstate s
  | .rstTop => .reset
  | .rstTx => .txResetReq
  | .rstRx => .reset
  | .rstCmp => responseOr .resetResponse .reset s
  | .siaTop => .setaddr
  | .sia1a => .txWriteProp
  | .sia1b => .txValue disableValue
  | .sia2a => .txReadProp
  | .sia2b | .sia2bSecond => .setaddr
  | .sia2c => echoOr .echoFirst .setaddr s
  | .sia3a => .txAddrHi
  | .sia3b => .txValue s.iaHi
  | .sia4a => .txAddrLo
  | .sia4b => .txValue s.iaLo
  | .sia5a => .txWriteProp
  | .sia5b => .txValue enableValue
  | .sia5c => .setaddr
  | .sia6a => .txReadProp
  | .sia6b | .sia6bSecond => .setaddr
  | .sia6c => echoOr .echoSecond .setaddr s
  | .siaFail => .setaddr
  | .iniOpen | .iniCfg | .iniTop | .iniRst | .iniSia | .iniChk | .iniEnd => .init
  | .rdDec | .rdSw | .rdLost | .rdEnd => .read
  | .decCtrl => .decode
  | .decCls => decodeFirstByte s.rxb
  | .decAddr | .decLen | .decPay | .decChk | .decVfy => .decode
  | .wrChk => .write
  | .wrPfx => .txPrefix s.idx
  | .wrDat => if s.idx.toNat < txMax then .txData (s.txbByte s.idx.toNat) else .encode
  | .wrEnd => .txEnd s.txLen
  | .wrCs => .txChecksum s.acc

/-- The engine's turn: a micro-step while an operation runs; idle, it waits (R210). -/
def engineTurn (s : State) : Turn := if s.busy then .run (fetchMicro s) s else .settled s

/-- R32, R221: a host write to an operand takes effect only while `busy = 0`. -/
def whileIdle (s : State) (f : State → State) : State := if s.busy then s else f s

/-- The moves of the host, the platform and the transport, which act at once. -/
def hostTurn (m : HostMove) (s : State) : Turn :=
  match m with
  | .opStart c => if s.busy then .settled s else .run (decodeOpCode c) s
  | .writeTxb i b => .settled (whileIdle s fun s => { s with txb := Memory.write s.txb i.val b })
  | .writeTxLen n => .settled (whileIdle s fun s => { s with txLen := n })
  | .writeChkIn b => .settled (whileIdle s fun s => { s with chkIn := b })
  | .setCancel v => .settled { s with cancel := v }
  | .hwReset => .settled (hwReset s)
  | .strapIa v => .settled { s with iaStrap := v }
  | .setOpen v => .settled { s with isOpen := v }
  | .answer a => .settled { s with rxStream := s.rxStream ++ [a] }
  | .flushChoice n => .settled { s with flushPlan := s.flushPlan ++ [n] }
  | .waitIdle => .settled s
  | .letEngine => .settled s

/-- Whose turn it is (log 2): with no pending move the engine's; while the host waits for `busy = 0` the engine's. -/
def turn (s : State) : Turn :=
  match s.moves with
  | [] => engineTurn s
  | .letEngine :: r => engineTurn { s with moves := r }
  | .waitIdle :: r => if s.busy then engineTurn s else .settled { s with moves := r }
  | m :: r => hostTurn m { s with moves := r }

/-! ## Placing an instruction where the next step finds it -/

/-- R22, R26: the engine in operation `op` at label `l`, its transport open, and its turn next. -/
def engineAt (op : HostOp) (l : Label) (s : State) : State :=
  { s with seq := l, busy := true, curOp := op, isOpen := true, moves := .letEngine :: s.moves }

/-- R25: an idle block and a pulse of `op_start` next. -/
def pulse (c : BitVec 4) (s : State) : State :=
  { s with seq := .idle, busy := false, moves := .opStart c :: s.moves }

/-- The state in which the next step runs instruction `i`: a host code on the port, a received byte in the latch that the
label of its position reads, a byte to send in the register that the label sends it from. Log 14. -/
def place (i : Instr) (s : State) : State :=
  match i with
  | .nop => pulse 0x0 s
  | .csum => pulse 0x1 s
  | .verify => pulse 0x2 s
  | .chkstate => pulse 0x3 s
  | .reset => pulse 0x4 s
  | .setaddr => pulse 0x5 s
  | .init => pulse 0x6 s
  | .read => pulse 0x7 s
  | .write => pulse 0x8 s
  | .reserved9 => pulse 0x9 s
  | .reservedA => pulse 0xA s
  | .reservedB => pulse 0xB s
  | .reservedC => pulse 0xC s
  | .reservedD => pulse 0xD s
  | .reservedE => pulse 0xE s
  | .reservedF => pulse 0xF s
  | .decode => engineAt .read .decCtrl s
  | .encode => engineAt .write .wrChk s
  | .flush => engineAt .setaddr .siaFail s
  | .csInit => engineAt .csum .csuInit s
  | .csAbsorb b => { engineAt .csum .csuLoop s with idx := 0, txLen := 1, txb := Memory.write s.txb 0 b }
  | .rxLinklost => { engineAt .read .decCls s with rxb := busLost }
  | .rxConfNeg => { engineAt .read .decCls s with rxb := confNegative }
  | .rxConfPos => { engineAt .read .decCls s with rxb := confPositive }
  | .rxCtrl b => { engineAt .read .decCls s with rxb := b }
  | .rxOther b => { engineAt .read .decCls s with rxb := b }
  | .rxFrame c s1 s2 d1 d2 l p k =>
    { engineAt .read .decCtrl s with rxStream := (frameBytes c s1 s2 d1 d2 l p ++ [k]).map .byte ++ s.rxStream }
  | .rxResetAck => { engineAt .reset .rstCmp s with rxb := resetAck, rxTimeout := false }
  | .rxStateReady => { engineAt .chkstate .chkEnd s with rxb := stateReady, rxTimeout := false }
  | .rxSiaEcho1 e => { engineAt .setaddr .sia2c s with echo := e, rxTimeout := false }
  | .rxSiaEcho2 e => { engineAt .setaddr .sia6c s with echo := e, rxTimeout := false }
  | .txResetReq => engineAt .reset .rstTx s
  | .txStateReq => engineAt .chkstate .chkTx s
  | .txWriteProp => engineAt .setaddr .sia1a s
  | .txReadProp => engineAt .setaddr .sia2a s
  | .txAddrHi => engineAt .setaddr .sia3a s
  | .txAddrLo => engineAt .setaddr .sia4a s
  | .txValue v => { engineAt .setaddr .sia4b s with ia := pairOf (hiByte s.ia) v }
  | .txPrefix i => { engineAt .write .wrPfx s with idx := i }
  | .txData d => { engineAt .write .wrDat s with idx := 0, txb := Memory.write s.txb 0 d }
  | .txEnd n => { engineAt .write .wrEnd s with txLen := n }
  | .txChecksum k => { engineAt .write .wrCs s with acc := k }

end Sys2Proof.Machine
end

