-- ==== Sys2Proof/Machine/Step.lean ====
section
/-! DEFINITION. One step: the turn that State says is next (log 2). -/

namespace Sys2Proof.Machine

/-- One step of the machine: a micro-step of the engine, or a move of the host, the platform or the transport. -/
def step (s : State) : Host.Outcome State Fault Refusal :=
  match turn s with
  | .run i s' => exec i s'
  | .settled s' => .next s'

/-- The state in which the next step runs the instruction that the decoder reads from a word of the opcode table; the state
itself where it reads none. Log 14. -/
def State.withFetchWord (s : State) (nbits w : Nat) : State :=
  match decodeTableWord nbits w with
  | some i => place i s
  | none => s

end Sys2Proof.Machine
end

