-- ==== Sys2Proof/Machine/HostProgram.lean ====
section
/-! DEFINITION. The host programs of R101 as moves of the host. -/

namespace Sys2Proof.Machine

/-- R101: one line of a host program. -/
inductive HostLine where
  /-- `LOAD b0 b1 ...`: the host writes `TXB[0..n)` and `tx_len`. -/
  | load (bytes : List Byte)
  /-- `CHK c`. -/
  | chk (c : Byte)
  /-- `CANCEL 0 | 1`. -/
  | cancel (v : Bool)
  /-- A mnemonic: pulse `op_start` and wait for `busy = 0`. -/
  | op (o : HostOp)
deriving DecidableEq, Repr

/-- The writes of `TXB` from index `i` on; none where the bytes do not fit (R98: a frame of more than 63 bytes cannot be
presented). -/
def loadMoves : Nat → List Byte → Option (List HostMove)
  | _, [] => some []
  | i, b :: bs =>
    if h : i < 63 then (loadMoves (i + 1) bs).map fun ms => .writeTxb ⟨i, h⟩ b :: ms else none

/-- R101: the moves of one line. -/
def HostLine.moves : HostLine → Option (List HostMove)
  | .load bs => (loadMoves 0 bs).map fun ms => ms ++ [.writeTxLen (BitVec.ofNat 6 bs.length)]
  | .chk c => some [.writeChkIn c]
  | .cancel v => some [.setCancel v]
  | .op o => some [.opStart o.code, .waitIdle]

/-- R101: the moves of a program; none where a `LOAD` line is longer than `TXB`. -/
def programMoves : List HostLine → Option (List HostMove)
  | [] => some []
  | l :: ls =>
    match l.moves, programMoves ls with
    | some ms, some rest => some (ms ++ rest)
    | _, _ => none

end Sys2Proof.Machine
end

