-- ==== Sys2Proof/Safety.lean ====
section
/-! DEFINITION. The terms the statements use: several steps, the invariants of the machine, what a step does to `link_state`,
and what two states must agree on to be told apart by one register only. -/

namespace Sys2Proof.Machine

/-! ## Runs -/

/-- `k` steps, stopping at the first fault or refusal. -/
def steps : Nat → State → Result
  | 0, s => .next s
  | k + 1, s =>
    match step s with
    | .next t => steps k t
    | .fault f => .fault f
    | .refused r => .refused r

/-- Instructions one after another. -/
def execAll : List Instr → State → Result
  | [], s => .next s
  | i :: is, s =>
    match exec i s with
    | .next t => execAll is t
    | .fault f => .fault f
    | .refused r => .refused r

/-- The block is idle and nobody but the engine is to move. -/
def State.ready (s : State) : Prop := s.busy = false ∧ s.moves = []

/-- The engine runs at label `l` and nobody else is to move. -/
def State.runsAt (s : State) (l : Label) : Prop := s.busy = true ∧ s.moves = [] ∧ s.seq = l

/-- R40: the same outcome up to what `f` forgets of the state. -/
def outcomeUpTo (f : State → State) (r : Result) : Result :=
  match r with
  | .next s => .next (f s)
  | .fault e => .fault e
  | .refused e => .refused e

/-! ## Events -/

/-- R205: the event of a read that was answered `a`. -/
def answerEvent (t : TimeLabel) : Answer → Event
  | .byte b => .rx b
  | .timeout => .rxTimeout t

/-- R205: the event of a write of `link_state`, if it changes the value. -/
def linkEvent (old new : LinkState) : List Event := if old = new then [] else [.state new]

/-- R205: the bytes sent, among events. -/
def txBytesOf : List Event → List Byte
  | [] => []
  | .tx b :: es => b :: txBytesOf es
  | _ :: es => txBytesOf es

/-- R10, R56: an event that records a transport request. -/
def Event.isRequest : Event → Bool
  | .tx _ | .rx _ | .rxTimeout _ | .flush _ | .delay _ | .isOpen _ | .configure => true
  | .start _ | .illegal _ | .retry _ | .state _ | .done _ _ _ => false

/-- A `link_state` event. -/
def Event.isLink : Event → Bool
  | .state _ => true
  | _ => false

/-- R143, R147, R163: `link_state` after the entry of an operation. -/
def entryLink (op : HostOp) (v : LinkState) : LinkState :=
  match op with
  | .reset => .resetting
  | .setaddr => .addressAssigning
  | _ => v

/-- R205: the events of a `SETADDR` iteration that succeeds, up to the second echo, with the address `ia` and the pairs `e1`
and `e2` received. -/
def setaddrEvents (ia e1 e2 : Pair) : List Event :=
  [.tx 0x22, .tx 0x00, .tx 0x1A, .rx (hiByte e1), .rx (loByte e1), .tx 0x1F, .tx (hiByte ia), .tx 0x1E, .tx (loByte ia),
    .tx 0x22, .tx 0x01, .delay .tSettle, .tx 0x1A, .rx (hiByte e2), .rx (loByte e2)]

/-- R148: the bytes of a complete `SETADDR` iteration. -/
def setaddrBytes (ia : Pair) : List Byte := [0x22, 0x00, 0x1A, 0x1F, hiByte ia, 0x1E, loByte ia, 0x22, 0x01, 0x1A]

/-! ## Who moves -/

/-- The next move is the engine's, if an operation runs. -/
def engineNext : List HostMove → Bool
  | [] | .letEngine :: _ | .waitIdle :: _ => true
  | _ => false

/-- The next move is an assertion of `hw_rst`. -/
def resetNext : List HostMove → Bool
  | .hwReset :: _ => true
  | _ => false

/-- R23: the operation or sub-operation a label belongs to. -/
def owner : Label → Instr
  | .idle => .nop
  | .csuInit | .csuLoop | .csuEnd => .csum
  | .verInit | .verLoop | .verEnd => .verify
  | .chkTx | .chkRx | .chkEnd => .chkstate
  | .rstTop | .rstTx | .rstRx | .rstCmp => .reset
  | .siaTop | .sia1a | .sia1b | .sia2a | .sia2b | .sia2bSecond | .sia2c => .setaddr
  | .sia3a | .sia3b | .sia4a | .sia4b | .sia5a | .sia5b | .sia5c => .setaddr
  | .sia6a | .sia6b | .sia6bSecond | .sia6c | .siaFail => .setaddr
  | .iniOpen | .iniCfg | .iniTop | .iniRst | .iniSia | .iniChk | .iniEnd => .init
  | .rdDec | .rdSw | .rdLost | .rdEnd => .read
  | .decCtrl | .decCls | .decAddr | .decLen | .decPay | .decChk | .decVfy => .decode
  | .wrChk | .wrPfx | .wrDat | .wrEnd | .wrCs => .write

/-- R56, R229: the labels whose line makes a request that needs an open transport: a `TRead`, `TWrite`, `TFlush` or
`TConfigure` (log 10). -/
def needsTransport : Label → Bool
  | .chkTx | .chkRx | .rstTx | .rstRx => true
  | .sia1a | .sia1b | .sia2a | .sia2b | .sia2bSecond | .sia3a | .sia3b | .sia4a | .sia4b | .sia5a | .sia5b => true
  | .sia6a | .sia6b | .sia6bSecond | .siaFail => true
  | .iniCfg => true
  | .decCtrl | .decAddr | .decLen | .decPay | .decChk => true
  | .wrPfx | .wrDat | .wrEnd | .wrCs => true
  | _ => false

/-- R81, R82, R84, R120, R130: the labels at which a sub-operation with labels, or a wire byte, is performed; none for the
host operations and for `FLUSH`, `CsInit`, `CsAbsorb`, which have no label of their own (log 11, log 27). -/
def labelsOf : Instr → Option (List Label)
  | .decode => some [.decCtrl, .decCls, .decAddr, .decLen, .decPay, .decChk, .decVfy]
  | .encode => some [.wrChk, .wrPfx, .wrDat, .wrEnd, .wrCs]
  | .rxLinklost | .rxConfNeg | .rxConfPos | .rxCtrl _ | .rxOther _ => some [.decCls]
  | .rxFrame _ _ _ _ _ _ _ _ => some [.decCtrl]
  | .rxResetAck => some [.rstCmp]
  | .rxStateReady => some [.chkEnd]
  | .rxSiaEcho1 _ => some [.sia2c]
  | .rxSiaEcho2 _ => some [.sia6c]
  | .txResetReq => some [.rstTx]
  | .txStateReq => some [.chkTx]
  | .txWriteProp => some [.sia1a, .sia5a]
  | .txReadProp => some [.sia2a, .sia6a]
  | .txAddrHi => some [.sia3a]
  | .txAddrLo => some [.sia4a]
  | .txValue _ => some [.sia1b, .sia3b, .sia4b, .sia5b]
  | .txPrefix _ => some [.wrPfx]
  | .txData _ => some [.wrDat]
  | .txEnd _ => some [.wrEnd]
  | .txChecksum _ => some [.wrCs]
  | .nop | .csum | .verify | .chkstate | .reset | .setaddr | .init | .read | .write => none
  | .reserved9 | .reservedA | .reservedB | .reservedC | .reservedD | .reservedE | .reservedF => none
  | .flush | .csInit | .csAbsorb _ => none

/-! ## The invariants -/

/-- R23, R24: the host operations that can be running at a label. -/
def opFits (op : HostOp) (l : Label) : Bool :=
  match owner l with
  | .csum => op == .csum
  | .verify => op == .verify
  | .chkstate => op == .chkstate || op == .init || op == .read
  | .reset => op == .reset || op == .init
  | .setaddr => op == .setaddr || op == .init
  | .init => op == .init
  | .read => op == .read
  | .decode => op == .read
  | .write => op == .write
  | _ => false

/-- What holds of the counters while `seq` is at a label (R22, R30, R117, R120, R124, R170, R174). -/
def labelFacts (s : State) : Prop :=
  match s.seq with
  | .csuLoop | .verLoop => s.idx.toNat ≤ s.txLen.toNat
  | .wrPfx | .wrDat => txMin ≤ s.txLen.toNat ∧ s.idx.toNat < s.txLen.toNat
  | .wrEnd | .wrCs => txMin ≤ s.txLen.toNat
  | .decCls => s.rxLen = 0
  | .decAddr => 1 ≤ s.cnt.toNat ∧ 1 ≤ s.rxLen.toNat ∧ s.rxLen.toNat + s.cnt.toNat = 5
  | .decLen => s.rxLen.toNat = 5
  | .decPay => 1 ≤ s.cnt.toNat ∧ hdrLen ≤ s.rxLen.toNat ∧ s.rxLen.toNat + s.cnt.toNat ≤ rxMax
  | .decChk | .decVfy => hdrLen < s.rxLen.toNat
  | .rdSw | .rdEnd => if s.retOk then hdrLen < s.rxLen.toNat else s.rxLen = 0
  | .rdLost => s.retOk = false ∧ s.rxLen = 0
  | .chkTx | .chkRx | .chkEnd => s.curOp = .read → s.retOk = false ∧ s.rxLen = 0
  | _ => True

/-- The invariant of the machine. -/
structure Inv (s : State) : Prop where
  /-- R22, R35: `busy = 1` exactly when `seq ≠ IDLE`. -/
  busy_iff : s.busy = true ↔ s.seq ≠ .idle
  /-- R24, R26: `cur_op` names an operation that can be at the label. -/
  op_fits : s.busy = true → opFits s.curOp s.seq = true
  /-- R50: `TXB` is in canonical form. -/
  txb_wf : Memory.wf txMax s.txb = true
  /-- R51: `RXB` is in canonical form. -/
  rxbuf_wf : Memory.wf rxMax s.rxbuf = true
  /-- R30: `rx_len` is 0 to 22. -/
  rxLen_le : s.rxLen.toNat ≤ rxMax
  /-- R37: `res_code = None` whenever `res_ok = 1`. -/
  res_none : s.resOk = true → s.resCode = .none
  /-- R37 of the pair a sub-operation returned. -/
  ret_none : s.retOk = true → s.retCode = .none
  /-- R149: the two patterns differ. -/
  echoes : s.siaEcho1 ≠ s.siaEcho2
  /-- The counters at the label. -/
  here : labelFacts s

/-- What the accumulator and the received frame hold at a label (R112, R125, R126, R174). -/
def FrameInv (s : State) : Prop :=
  match s.seq with
  | .csuLoop | .verLoop | .wrPfx | .wrDat => s.acc = cs (s.txbytes s.idx.toNat)
  | .csuEnd | .verEnd | .wrEnd | .wrCs => s.acc = cs s.txFrame
  | .decCls => s.acc = csSeed
  | .decAddr | .decLen => s.acc = cs s.rxFrame ∧ isCtrl (s.rxbByte 0) = true
  | .decPay =>
    s.acc = cs s.rxFrame ∧ isCtrl (s.rxbByte 0) = true ∧
      s.rxLen.toNat + s.cnt.toNat = hdrLen + (payloadCount (s.rxbByte 5)).toNat
  | .decChk | .decVfy =>
    s.acc = cs s.rxFrame ∧ isCtrl (s.rxbByte 0) = true ∧
      s.rxLen.toNat = hdrLen + (payloadCount (s.rxbByte 5)).toNat
  | .rdSw | .rdEnd =>
    s.retOk = true →
      s.acc = cs s.rxFrame ∧ isCtrl (s.rxbByte 0) = true ∧
        s.rxLen.toNat = hdrLen + (payloadCount (s.rxbByte 5)).toNat
  | _ => True

/-! ## The table of R163 -/

/-- R163: `link_state` after the engine's micro-step at the label. -/
def linkAfterMicro (s : State) : LinkState :=
  match s.seq with
  | .iniRst => .resetting
  | .rstCmp => if ackReceived s then .addressAssigning else s.linkState
  | .iniSia => .addressAssigning
  | .sia6c => if echoReceived s.siaEcho2 s then .stateChecking else s.linkState
  | .chkTx => .stateChecking
  | .chkEnd => if readyReceived s then .ready else s.linkState
  | _ => s.linkState

/-- R163: `link_state` after a step: every row of the table, and no other write. -/
def linkAfter (s : State) : LinkState :=
  match s.moves with
  | .hwReset :: _ => .uninitialized
  | .opStart c :: _ =>
    if s.busy then s.linkState
    else if c = 0x4 then .resetting
    else if c = 0x5 then .addressAssigning
    else s.linkState
  | m => if engineNext m && s.busy then linkAfterMicro s else s.linkState

/-! ## What two states differ in -/

/-- The state but for `link_state` and its events. -/
def forgetLink (s : State) : State :=
  { s with linkState := .uninitialized, events := s.events.filter fun e => !e.isLink }

/-- The state but for `cancel`. -/
def forgetCancel (s : State) : State := { s with cancel := false }

/-- R160: the three labels that read `cancel`. -/
def readsCancel : Label → Bool
  | .rstTop | .siaTop | .iniTop => true
  | _ => false

end Sys2Proof.Machine
end

