-- ==== Sys2Proof/Certificates/Slice0/Obligations.lean ====
section
/-! DEFINITION. The statements for the provers. Each docstring names the rule of spec/ it formalises; a clause that is the
model's own choice names its log entry. -/

open Sys2Proof Sys2Proof.Machine

/-! ## Encoding -/

/-- R81, R83, R85, R87, R89, R80: an instruction's bytes decode, at its position, to the instruction, with every operand at
every value its format admits, and leave the bytes after it. -/
def Obligations.DecodeOfEncode : Prop :=
  ∀ (i : Instr) (p : Position) (rest : List Byte),
    i.wf = true → i.position = some p → decodeAt p (encode i ++ rest) = .ok i rest

/-- R97: whatever bytes decode to an instruction are its encoding, and the instruction is well-formed and of that position. -/
def Obligations.EncodeOfDecode : Prop :=
  ∀ (p : Position) (bs rest : List Byte) (i : Instr),
    decodeAt p bs = .ok i rest → bs = encode i ++ rest ∧ i.wf = true ∧ i.position = some p

/-- R85, R86: the first byte of a `DECODE` is of exactly one class: 0x03, 0x0B, 0x8B, the eight bytes of class `CTRL`, and
every other byte. -/
def Obligations.FirstByteClassesOfTheTable : Prop :=
  ∀ b : Byte,
    (decodeAt .firstByte [b] = .ok .rxLinklost [] ↔ b = 0x03) ∧
    (decodeAt .firstByte [b] = .ok .rxConfNeg [] ↔ b = 0x0B) ∧
    (decodeAt .firstByte [b] = .ok .rxConfPos [] ↔ b = 0x8B) ∧
    (decodeAt .firstByte [b] = .ok (.rxCtrl b) [] ↔ b ∈ [0x90, 0x94, 0x98, 0x9C, 0xB0, 0xB4, 0xB8, 0xBC]) ∧
    (decodeAt .firstByte [b] = .ok (.rxOther b) [] ↔
      b ∉ [0x03, 0x0B, 0x8B, 0x90, 0x94, 0x98, 0x9C, 0xB0, 0xB4, 0xB8, 0xBC])

/-- R80, R82, R85, R87, R90, R91: words written out from the spec's encodings decode to the instructions they stand for. -/
def Obligations.WordsOfTheSpecDecode : Prop :=
  decodeAt .opCode [0x01] = .ok .csum [] ∧ decodeAt .opCode [0x08] = .ok .write [] ∧
  decodeAt .opCode [0x0F] = .ok .reservedF [] ∧
  decodeAt .firstByte [0x8B] = .ok .rxConfPos [] ∧ decodeAt .firstByte [0xBC] = .ok (.rxCtrl 0xBC) [] ∧
  decodeAt .frame [0x90, 0x10, 0x20, 0x30, 0x40, 0x00, 0xAA, 0x85] =
    .ok (.rxFrame 0x90 0x10 0x20 0x30 0x40 0x00 [0xAA] 0x85) [] ∧
  decodeAt .resetResponse [0x03] = .ok .rxResetAck [] ∧ decodeAt .echoFirst [0x1A, 0x00] = .ok (.rxSiaEcho1 0x1A00) [] ∧
  decodeAt .command [0x22] = .ok .txWriteProp [] ∧ decodeAt .dataPrefix [0xBE] = .ok (.txPrefix 62) [] ∧
  decodeAt .endMark [0x7F] = .ok (.txEnd 63) []

/-! ## The step and the instruction it runs -/

/-- R25, R22, R81: a pulse of `op_start` on an idle block runs the instruction that the code decodes to (the pulse is taken
from the pending moves, log 2), and while an operation runs the engine runs the instruction its label selects: the first byte
latched at `DEC_CLS`, the response latched at `RST_CMP` and `CHK_END`, and at every label `fetchMicro`. -/
def Obligations.StepRunsTheDecodedInstruction : Prop :=
  (∀ (s : State) (c : BitVec 4) (r : List HostMove) (i : Instr),
    s.moves = .opStart c :: r → s.busy = false → decodeAt .opCode [c.setWidth 8] = .ok i [] →
      step s = exec i { s with moves := r }) ∧
  (∀ (s : State) (i : Instr), s.runsAt .decCls → decodeAt .firstByte [s.rxb] = .ok i [] → step s = exec i s) ∧
  (∀ (s : State) (i : Instr), s.runsAt .rstCmp → s.rxTimeout = false → decodeAt .resetResponse [s.rxb] = .ok i [] →
    step s = exec i s) ∧
  (∀ (s : State) (i : Instr), s.runsAt .chkEnd → s.rxTimeout = false → decodeAt .stateResponse [s.rxb] = .ok i [] →
    step s = exec i s) ∧
  (∀ s : State, s.busy = true → s.moves = [] → step s = exec (fetchMicro s) s)

/-- R23: at every label of a running operation, the byte-level instruction that the engine runs does what the micro-step of
the operation does that R23 gives the label to; at the labels of `WRITE` so does `ENCODE` (R130). -/
def Obligations.MicroStepsAreTheirOperations : Prop :=
  ∀ s : State, s.busy = true →
    exec (fetchMicro s) s = exec (owner s.seq) s ∧ (owner s.seq = .write → exec .encode s = exec .write s)

/-- R25: the start of an operation. While `busy = 1` the pulse is ignored; while `busy = 0` code 0 does nothing, a code
from 9 on is rejected, and a defined code starts its operation, with the entry write of `link_state` of R143 and R147. The
pulse is taken from the pending moves (log 2). -/
def Obligations.StartOfAnOperation : Prop :=
  ∀ (s : State) (c : BitVec 4) (r : List HostMove), s.moves = .opStart c :: r →
    (s.busy = true → step s = .next { s with moves := r }) ∧
    (s.busy = false →
      (c = 0 → step s = .next { s with moves := r }) ∧
      (9 ≤ c.toNat →
        step s = .next
          { s with moves := r, resOk := false, resCode := .illegalOp, events := s.events ++ [.illegal c] }) ∧
      (∀ op : HostOp, op ≠ .nop → c = op.code →
        step s = .next
          { s with
            moves := r, curOp := op, busy := true, seq := firstLabel op, linkState := entryLink op s.linkState,
            events := s.events ++ [.start op] ++ linkEvent s.linkState (entryLink op s.linkState) }))

/-- R95: `NOP` does nothing at all; a reserved code does not start an operation: `res_ok <- 0`, `res_code <- IllegalOp`,
the event `Illegal(c)`, and nothing else changes. -/
def Obligations.NopAndReservedCodes : Prop :=
  (∀ s : State, exec .nop s = .next s) ∧
  (∀ (s : State) (p : Instr × BitVec 4), s.busy = false →
    p ∈ [(.reserved9, 0x9), (.reservedA, 0xA), (.reservedB, 0xB), (.reservedC, 0xC), (.reservedD, 0xD), (.reservedE, 0xE),
      (.reservedF, 0xF)] →
    exec p.1 s = .next { s with resOk := false, resCode := .illegalOp, events := s.events ++ [.illegal p.2] })

/-! ## The checksum engine -/

/-- R110: `cs([]) = 0xFF`, each byte is XORed in, and bit `k` of `cs(f)` is 1 XOR the parity of bit `k` over `f`. -/
def Obligations.ChecksumIsTheXorFold : Prop :=
  cs [] = 0xFF ∧ (∀ (f : List Byte) (b : Byte), cs (f ++ [b]) = cs f ^^^ b) ∧
  (∀ (f : List Byte) (k : Nat), k < 8 → ((cs f).getLsbD k = true ↔ Even (f.countP fun b => b.getLsbD k)))

/-- R111, R112: `CsInit` seeds the accumulator, `CsAbsorb(b)` XORs `b` into it, nothing else changes, and the bytes of `f`
absorbed in any order leave `cs(f)`. -/
def Obligations.CsInitAndAbsorbInAnyOrder : Prop :=
  (∀ s : State, exec .csInit s = .next { s with acc := 0xFF }) ∧
  (∀ (s : State) (b : Byte), exec (.csAbsorb b) s = .next { s with acc := s.acc ^^^ b }) ∧
  (∀ (s : State) (f g : List Byte), g.Perm f →
    execAll (.csInit :: g.map .csAbsorb) s = .next { s with acc := cs f })

/-- R116: the round trip; single-bit flips in the frame and in the checksum byte are detected; an error pattern goes
undetected exactly when every bit position has an even number of flips, so a reordering and an inserted 0x00 do; exactly one
checksum byte verifies. -/
def Obligations.WhatTheChecksumDetects : Prop :=
  (∀ f : List Byte, verifyChecksum f (cs f) = true) ∧
  (∀ (f : List Byte) (c : Byte) (i k : Nat) (h : i < f.length), k < 8 → verifyChecksum f c = true →
    verifyChecksum (f.set i (f[i] ^^^ (1 <<< k))) c = false ∧ verifyChecksum f (c ^^^ (1 <<< k)) = false) ∧
  (∀ (f g : List Byte) (c d : Byte), f.length = g.length → verifyChecksum f c = true →
    (verifyChecksum g d = true ↔
      ∀ k, k < 8 →
        Even ((f.zip g).countP (fun p => p.1.getLsbD k != p.2.getLsbD k) + (c.getLsbD k != d.getLsbD k).toNat))) ∧
  (∀ (f g : List Byte) (c : Byte), f.Perm g → verifyChecksum f c = verifyChecksum g c) ∧
  (∀ (f g : List Byte) (c : Byte), verifyChecksum (f ++ 0x00 :: g) c = verifyChecksum (f ++ g) c) ∧
  (∀ f : List Byte, ∃ c, ∀ d, verifyChecksum f d = true ↔ d = c)

/-- R113: `CSUM`, from its start on an idle block to its end: `acc = cs(TXB[0..tx_len))`, `res_ok = 1`, `res_code = None`, and
nothing else changes but the sequencer's own registers; it makes no transport request. -/
def Obligations.CsumComputesTheChecksum : Prop :=
  ∀ s : State, s.ready →
    ∃ t n, exec .csum s = .next t ∧
      steps n t = .next
        { s with
          seq := .idle, busy := false, curOp := .csum, idx := s.txLen, acc := cs s.txFrame, resOk := true, resCode := .none,
          events := s.events ++ [.start .csum, .done .csum true .none] }

/-- R114: `VERIFY`, from its start to its end: `acc = cs(TXB[0..tx_len))`, `res_ok` the verdict, `res_code = None`, and nothing
else changes but the sequencer's own registers. -/
def Obligations.VerifyReportsTheVerdict : Prop :=
  ∀ s : State, s.ready →
    ∃ t n, exec .verify s = .next t ∧
      steps n t = .next
        { s with
          seq := .idle, busy := false, curOp := .verify, idx := s.txLen, acc := cs s.txFrame,
          resOk := verifyChecksum s.txFrame s.chkIn, resCode := .none,
          events := s.events ++ [.start .verify, .done .verify (verifyChecksum s.txFrame s.chkIn) .none] }

/-! ## DECODE and READ -/

/-- R85, R122, R96: what each class of first byte does at `DEC_CLS`. `LinkLost`, a confirmation and an illegal byte return
their kind to `READ` with `rx_len = 0`; a confirmation also reports its polarity. The content of `RXB` becomes unspecified
(R127: `m` and `n` are not said); nothing else changes. -/
def Obligations.FirstByteOutcomes : Prop :=
  ∀ s : State, s.seq = .decCls →
    (∃ m n, exec .rxLinklost s = .next
      { s with seq := .rdSw, rxLen := 0, rxbuf := m, rxbEpoch := n, retOk := false, retCode := .linkLost }) ∧
    (∃ m n, exec .rxConfNeg s = .next
      { s with
        seq := .rdSw, rxLen := 0, rxbuf := m, rxbEpoch := n, retOk := false, retCode := .confirmationOnly,
        confPol := false }) ∧
    (∃ m n, exec .rxConfPos s = .next
      { s with
        seq := .rdSw, rxLen := 0, rxbuf := m, rxbEpoch := n, retOk := false, retCode := .confirmationOnly,
        confPol := true }) ∧
    (∀ b : Byte, (Instr.rxOther b).wf = true → ∃ m n, exec (.rxOther b) s = .next
      { s with seq := .rdSw, rxLen := 0, rxbuf := m, rxbEpoch := n, retOk := false, retCode := .malformedControl })

/-- R120, R121: a control field at `DEC_CLS` is pushed: stored at `RXB[rx_len]`, counted and absorbed; four address bytes
follow. Every other byte of both buffers reads as before. -/
def Obligations.ControlFieldIsPushed : Prop :=
  ∀ (s : State) (b : Byte), s.seq = .decCls → s.rxLen.toNat < 22 → (Instr.rxCtrl b).wf = true →
    ∃ m : Memory,
      exec (.rxCtrl b) s = .next
        { s with seq := .decAddr, cnt := 4, rxbuf := m, rxLen := s.rxLen + 1, acc := s.acc ^^^ b } ∧
      ∀ a : Nat, State.rxbByte { s with rxbuf := m } a = if a = s.rxLen.toNat then b else s.rxbByte a

/-- R120, R124, R125: every micro-step of `DECODE` completes on an open transport and consumes an answer exactly when its
line has a `TRead`; it sends nothing and leaves every register but those of the receive side as it is. -/
def Obligations.DecodeMicroStepsComplete : Prop :=
  ∀ s : State, Inv s → s.isOpen = true → owner s.seq = .decode →
    ∃ t, exec .decode s = .next t ∧
      t.rxStream = (if s.seq = .decCls ∨ s.seq = .decVfy then s.rxStream else (nextAnswer s.rxStream).2) ∧
      (owner t.seq = .decode ∨ t.seq = .rdSw) ∧
      t = { s with
            seq := t.seq, cnt := t.cnt, acc := t.acc, rxLen := t.rxLen, rxb := t.rxb, rxbuf := t.rxbuf, rxbEpoch := t.rxbEpoch,
            confPol := t.confPol, rxStream := t.rxStream, rxTimeout := t.rxTimeout, retOk := t.retOk,
            retCode := t.retCode, events := t.events }

/-- R87, R120: a well-formed frame on the RX stream, read by `DECODE` micro-step by micro-step, is the instruction `RX_FRAME`
on the stream without it. That `RX_FRAME` is one step, with the frame as its operands, is the model's choice (log 19). -/
def Obligations.FrameReceptionIsDecode : Prop :=
  ∀ (s : State) (c s1 s2 d1 d2 l : Byte) (p : List Byte) (k : Byte) (r : List Answer),
    s.runsAt .decCtrl → (Instr.rxFrame c s1 s2 d1 d2 l p k).wf = true →
      steps (p.length + 9) { s with rxStream := (encode (.rxFrame c s1 s2 d1 d2 l p k)).map .byte ++ r } =
        exec (.rxFrame c s1 s2 d1 d2 l p k) { s with rxStream := r }

/-- R87, R125, R126, R127: `RX_FRAME` at `DEC_CTRL` completes on an open transport. With the right checksum `DECODE` returns
`(1, None)`, `RXB` holds the frame and outside it reads as before, `rx_len` is its length and `acc` its checksum; with any
other it returns `ChecksumMismatch` with `rx_len = 0`. Nothing is sent and `TXB` stays. That `RX_FRAME` is the whole reception
in one step, with the frame's bytes as its operands and the RX stream untouched, is the model's choice (log 19). -/
def Obligations.FrameReceptionStoresTheFrame : Prop :=
  ∀ (s : State) (c s1 s2 d1 d2 l : Byte) (p : List Byte) (k : Byte),
    s.seq = .decCtrl → s.isOpen = true → (Instr.rxFrame c s1 s2 d1 d2 l p k).wf = true →
      ∃ t, exec (.rxFrame c s1 s2 d1 d2 l p k) s = .next t ∧ t.seq = .rdSw ∧
        (k = cs (frameBytes c s1 s2 d1 d2 l p) →
          t.retOk = true ∧ t.retCode = .none ∧ t.rxFrame = frameBytes c s1 s2 d1 d2 l p ∧
            t.acc = cs (frameBytes c s1 s2 d1 d2 l p) ∧ ∀ a : Nat, p.length + 6 ≤ a → t.rxbByte a = s.rxbByte a) ∧
        (k ≠ cs (frameBytes c s1 s2 d1 d2 l p) →
          t.retOk = false ∧ t.retCode = .checksumMismatch ∧ t.rxLen = 0) ∧
        t = { s with
              seq := t.seq, cnt := t.cnt, acc := t.acc, rxLen := t.rxLen, rxb := k, rxbuf := t.rxbuf,
              rxbEpoch := t.rxbEpoch, rxTimeout := false, retOk := t.retOk, retCode := t.retCode,
              events := s.events ++ (frameBytes c s1 s2 d1 d2 l p ++ [k]).map .rx }

/-- R129, R170, R171, R172: `READ` from its start on an idle block with an open transport ends, and its result is the outcome
of `DECODE` as a function of the transport's answers alone. On `LinkLost` it makes one state check, whose outcome only
`link_state` tells; otherwise nothing is sent and `link_state` stays. After success every byte of `RXB` past the frame reads
as before. Outside the receive side, the results, `link_state`, the streams, the events and the sequencer's own registers
nothing changes. -/
def Obligations.ReadIsDecodeOfTheAnswers : Prop :=
  ∀ s : State, s.ready → s.isOpen = true →
    ∃ t n u, exec .read s = .next t ∧ steps n t = .next u ∧
      u.busy = false ∧ u.seq = .idle ∧ u.curOp = .read ∧
      u.resOk = decide ((decodeAnswers s.rxStream).code = .none) ∧ u.resCode = (decodeAnswers s.rxStream).code ∧
      u.rxFrame = (decodeAnswers s.rxStream).frame ∧
      u.confPol = (decodeAnswers s.rxStream).polarity.getD s.confPol ∧
      ((decodeAnswers s.rxStream).code = .linkLost →
        u.txStream = s.txStream ++ [0x02] ∧ u.rxStream = (nextAnswer (decodeAnswers s.rxStream).left).2 ∧
        u.linkState =
          if (nextAnswer (decodeAnswers s.rxStream).left).1 = .byte 0x07 then .ready else .stateChecking) ∧
      ((decodeAnswers s.rxStream).code ≠ .linkLost →
        u.txStream = s.txStream ∧ u.rxStream = (decodeAnswers s.rxStream).left ∧ u.linkState = s.linkState) ∧
      ((decodeAnswers s.rxStream).code = .none →
        ∀ a : Nat, (decodeAnswers s.rxStream).frame.length ≤ a → u.rxbByte a = s.rxbByte a) ∧
      u = { s with
            seq := u.seq, cnt := u.cnt, busy := u.busy, curOp := u.curOp, acc := u.acc, rxLen := u.rxLen, rxb := u.rxb,
            rxbuf := u.rxbuf, rxbEpoch := u.rxbEpoch, linkState := u.linkState, resOk := u.resOk, resCode := u.resCode,
            confPol := u.confPol, events := u.events, txStream := u.txStream, rxStream := u.rxStream,
            rxTimeout := u.rxTimeout, retOk := u.retOk, retCode := u.retCode }

/-- R128: the outcome of `DECODE` for every sequence of answers, with what it consumes, stores and reports: a timeout at the
`j`-th read takes `j - 1` bytes, a first byte that is no control field one byte, and a whole frame `7 + n` bytes, where `n` is
one more than the low four bits of its sixth byte. A script that ends answers `Timeout` (R72). -/
def Obligations.WhatDecodeConsumes : Prop :=
  decodeAnswers [] = .failed .timeout [] ∧
  (∀ r : List Answer, decodeAnswers (.timeout :: r) = .failed .timeout r) ∧
  (∀ r : List Answer, decodeAnswers (.byte 0x03 :: r) = .failed .linkLost r) ∧
  (∀ r : List Answer,
    decodeAnswers (.byte 0x0B :: r) = { code := .confirmationOnly, frame := [], polarity := some false, left := r }) ∧
  (∀ r : List Answer,
    decodeAnswers (.byte 0x8B :: r) = { code := .confirmationOnly, frame := [], polarity := some true, left := r }) ∧
  (∀ (b : Byte) (r : List Answer), (Instr.rxOther b).wf = true → decodeAnswers (.byte b :: r) = .failed .malformedControl r) ∧
  (∀ (f : List Byte) (k : Byte) (r : List Answer) (l : Byte), f[5]? = some l → f.length = 7 + (l &&& 0x0F).toNat →
    f.head?.any isCtrl = true →
    (k = cs f → decodeAnswers ((f ++ [k]).map .byte ++ r) = { code := .none, frame := f, polarity := none, left := r }) ∧
    (k ≠ cs f → decodeAnswers ((f ++ [k]).map .byte ++ r) = .failed .checksumMismatch r)) ∧
  (∀ (f : List Byte) (r : List Answer) (l : Byte), f.head?.any isCtrl = true → f[5]? = some l →
    f.length ≤ 7 + (l &&& 0x0F).toNat →
      decodeAnswers (f.map .byte ++ .timeout :: r) = .failed .timeout r ∧ decodeAnswers (f.map .byte) = .failed .timeout []) ∧
  (∀ (f : List Byte) (r : List Answer), f.head?.any isCtrl = true → f.length ≤ 5 →
    decodeAnswers (f.map .byte ++ .timeout :: r) = .failed .timeout r ∧ decodeAnswers (f.map .byte) = .failed .timeout [])

/-! ## ENCODE and WRITE -/

/-- R132, R135: for `7 ≤ n ≤ 63` the encoding has `2n + 2` bytes: byte `2i` is `0x80 + i`, byte `2i + 1` is `f[i]`, byte `2n`
is `0x40 + n`, byte `2n + 1` is `cs(f)`; with every prefix and the end marker removed it is the frame and its checksum. -/
def Obligations.EncodingByteByByte : Prop :=
  ∀ f : List Byte, 7 ≤ f.length → f.length ≤ 63 →
    ∃ e, enc f = some e ∧ e.length = 2 * f.length + 2 ∧
      (∀ i, i < f.length → e[2 * i]? = some (BitVec.ofNat 8 (0x80 + i)) ∧ e[2 * i + 1]? = f[i]?) ∧
      e[2 * f.length]? = some (BitVec.ofNat 8 (0x40 + f.length)) ∧ e[2 * f.length + 1]? = some (cs f) ∧
      strip e = f ++ [cs f]

/-- R174, R130, R177: `WRITE` of 7 to 63 bytes, from its start on an idle block with an open transport to its end: it sends
exactly `enc(TXB[0..n))`, one `TWrite` a micro-step, reads nothing, and ends in success. Nothing else changes but the
sequencer's own registers and `acc`, whose value after a `WRITE` is unspecified to the host (R27, U7). -/
def Obligations.WriteSendsTheEncoding : Prop :=
  ∀ s : State, s.ready → s.isOpen = true → 7 ≤ s.txLen.toNat →
    ∃ t e a, exec .write s = .next t ∧ enc s.txFrame = some e ∧
      steps (2 * s.txLen.toNat + 3) t = .next
        { s with
          seq := .idle, busy := false, curOp := .write, idx := s.txLen, acc := a, resOk := true, resCode := .none,
          txStream := s.txStream ++ e, events := s.events ++ [.start .write] ++ e.map .tx ++ [.done .write true .none] }

/-- R175: a frame of fewer than 7 bytes is refused with `FrameTooShort` before any byte is sent, open transport or not. -/
def Obligations.WriteRefusesShortFrames : Prop :=
  ∀ s : State, s.ready → s.txLen.toNat < 7 →
    ∃ t, exec .write s = .next t ∧
      steps 1 t = .next
        { s with
          seq := .idle, busy := false, curOp := .write, resOk := false, resCode := .frameTooShort,
          events := s.events ++ [.start .write, .done .write false .frameTooShort] }

/-- R174, R90, R91: the bytes of `WRITE` at their labels, on an open transport: a prefix, a frame byte (absorbed and
counted; another pair follows while `idx < tx_len`), the end marker, the checksum that finishes the operation. Each is one
byte on the TX stream and one event; nothing else changes. -/
def Obligations.TransmitFrameBytes : Prop :=
  ∀ s : State, s.isOpen = true →
    (s.seq = .wrPfx → ∀ i : BitVec 6, i.toNat ≤ 62 →
      exec (.txPrefix i) s = .next
        { s with
          seq := .wrDat, txStream := s.txStream ++ [BitVec.ofNat 8 (0x80 + i.toNat)],
          events := s.events ++ [.tx (BitVec.ofNat 8 (0x80 + i.toNat))] }) ∧
    (s.seq = .wrDat → ∀ d : Byte,
      exec (.txData d) s = .next
        { s with
          seq := if (s.idx + 1).toNat < s.txLen.toNat then .wrPfx else .wrEnd, idx := s.idx + 1, acc := s.acc ^^^ d,
          txStream := s.txStream ++ [d], events := s.events ++ [.tx d] }) ∧
    (s.seq = .wrEnd → ∀ n : BitVec 6, 7 ≤ n.toNat →
      exec (.txEnd n) s = .next
        { s with
          seq := .wrCs, txStream := s.txStream ++ [BitVec.ofNat 8 (0x40 + n.toNat)],
          events := s.events ++ [.tx (BitVec.ofNat 8 (0x40 + n.toNat))] }) ∧
    (s.seq = .wrCs → ∀ k : Byte,
      exec (.txChecksum k) s = .next
        { s with
          seq := .idle, busy := false, resOk := true, resCode := .none, txStream := s.txStream ++ [k],
          events := s.events ++ [.tx k, .done s.curOp true .none] })

/-- R130, R131, R174: every micro-step of `ENCODE` completes: the length check always, the others on an open transport, each
of those with exactly one byte sent and nothing read; both buffers and `tx_len` stay. -/
def Obligations.EncodeMicroStepsComplete : Prop :=
  ∀ s : State, Inv s → owner s.seq = .write → (s.seq = .wrChk ∨ s.isOpen = true) →
    ∃ t bs, exec .encode s = .next t ∧ t.txStream = s.txStream ++ bs ∧ bs.length = (if s.seq = .wrChk then 0 else 1) ∧
      t = { s with
            seq := t.seq, busy := t.busy, idx := t.idx, acc := t.acc, resOk := t.resOk, resCode := t.resCode,
            txStream := t.txStream, events := t.events }

/-- R135, R136: the de-stuffed encoding of a frame that begins with a control field and whose length field counts its payload
is the frame and its checksum, and `READ` of it, on an idle block with an open transport, delivers the frame. -/
def Obligations.EncodeThenReadGivesTheFrame : Prop :=
  ∀ (f : List Byte) (l : Byte), f.head?.any isCtrl = true → f[5]? = some l → f.length = 7 + (l &&& 0x0F).toNat →
    ∃ e, enc f = some e ∧ strip e = f ++ [cs f] ∧
      ∀ (s : State) (r : List Answer), s.ready → s.isOpen = true → s.rxStream = (strip e).map .byte ++ r →
        ∃ t n u, exec .read s = .next t ∧ steps n t = .next u ∧
          u.busy = false ∧ u.resOk = true ∧ u.resCode = .none ∧ u.rxFrame = f ∧ u.rxStream = r

/-! ## The link bring-up -/

/-- R140, R141: `CHKSTATE`, from its start on an idle block with an open transport to its end: one 0x02 sent, one answer taken,
`Ready` and success exactly for the byte 0x07, the kind `Timeout` exactly for a timeout. Nothing else changes. -/
def Obligations.ChkstateIsOneExchange : Prop :=
  ∀ (s : State) (a : Answer) (r : List Answer), s.ready → s.isOpen = true → nextAnswer s.rxStream = (a, r) →
    ∃ t, exec .chkstate s = .next t ∧
      steps 3 t = .next
        { s with
          seq := .idle, busy := false, curOp := .chkstate, rxStream := r,
          linkState := if a = .byte 0x07 then .ready else .stateChecking,
          resOk := decide (a = .byte 0x07), resCode := if a = .timeout then .timeout else .none,
          rxb := match a with
            | .byte b => b
            | .timeout => s.rxb
          rxTimeout := decide (a = .timeout), txStream := s.txStream ++ [0x02],
          events :=
            s.events ++ [.start .chkstate] ++ linkEvent s.linkState .stateChecking ++ [.tx 0x02, answerEvent .tShort a] ++
              (if a = .byte 0x07 then [.state .ready] else []) ++
              [.done .chkstate (decide (a = .byte 0x07)) (if a = .timeout then .timeout else .none)] }

/-- R143, R144: `RESET` retries until the acknowledgement: after `k` answers that are not 0x03 and one that is, it has sent
`k + 1` bytes 0x01 and emitted `k` events `Retry(RESET)`, and ends in success with `link_state = AddressAssigning`. Nothing
else changes. -/
def Obligations.ResetRetriesUntilAcknowledged : Prop :=
  ∀ (s : State) (bad r : List Answer), s.ready → s.isOpen = true → s.cancel = false →
    (∀ a ∈ bad, a ≠ .byte 0x03) → s.rxStream = bad ++ .byte 0x03 :: r →
      ∃ t, exec .reset s = .next t ∧
        steps (4 * (bad.length + 1)) t = .next
          { s with
            seq := .idle, busy := false, curOp := .reset, rxStream := r, linkState := .addressAssigning, resOk := true,
            resCode := .none, rxb := 0x03, rxTimeout := false, txStream := s.txStream ++ List.replicate (bad.length + 1) 0x01,
            events :=
              s.events ++ [.start .reset] ++ linkEvent s.linkState .resetting ++
                bad.flatMap (fun a => [.tx 0x01, answerEvent .tReset a, .retry .reset]) ++
                [.tx 0x01, .rx 0x03, .state .addressAssigning, .done .reset true .none] }

/-- R147, R148, R152, R153: `SETADDR` with both echoes as expected: the ten bytes of R148, the settle delay, four bytes read,
success with `link_state = StateChecking`. Nothing else changes; `IA` stays. -/
def Obligations.SetaddrAssignsTheAddress : Prop :=
  ∀ (s : State) (r : List Answer), s.ready → s.isOpen = true → s.cancel = false →
    s.rxStream =
      .byte (hiByte s.siaEcho1) :: .byte (loByte s.siaEcho1) :: .byte (hiByte s.siaEcho2) :: .byte (loByte s.siaEcho2) :: r →
      ∃ t, exec .setaddr s = .next t ∧
        steps 18 t = .next
          { s with
            seq := .idle, busy := false, curOp := .setaddr, rxStream := r, linkState := .stateChecking, resOk := true,
            resCode := .none, rxb := loByte s.siaEcho2, echo := s.siaEcho2, rxTimeout := false,
            txStream := s.txStream ++ setaddrBytes s.ia,
            events :=
              s.events ++ [.start .setaddr] ++ linkEvent s.linkState .addressAssigning ++
                setaddrEvents s.ia s.siaEcho1 s.siaEcho2 ++ [.state .stateChecking, .done .setaddr true .none] }

/-- R150, R151: a first echo that is wrong, or that times out, sends no address: after `22 00 1A` the input is flushed,
`Retry(SETADDR)` is emitted, and the sequence starts again from `SIA_TOP`. What the flush leaves is the transport's choice
(R60, log 4). -/
def Obligations.SetaddrRetriesAWrongFirstEcho : Prop :=
  ∀ (s : State) (x : Option (List Byte)) (r : List Answer),
    s.runsAt .siaTop → s.isOpen = true → s.cancel = false →
    readBytes 2 s.rxStream = (x, r) → x ≠ some [hiByte s.siaEcho1, loByte s.siaEcho1] →
      ∃ n u, steps n s = .next u ∧ u.runsAt .siaTop ∧ u.linkState = s.linkState ∧ u.ia = s.ia ∧
        u.txStream = s.txStream ++ [0x22, 0x00, 0x1A] ∧
        (∃ reads, u.events = s.events ++ [.tx 0x22, .tx 0x00, .tx 0x1A] ++ reads ++ [.flush .tFlush, .retry .setaddr] ∧
          reads.all (fun e => match e with
            | .rx _ => true
            | .rxTimeout .tShort => true
            | _ => false) = true) ∧
        (∃ k, u.rxStream = r.drop k)

/-- R147, R150, R151: a second echo that is wrong, or that times out, after a first one that matched: the ten bytes of the
iteration have been sent, the input is flushed, `Retry(SETADDR)` is emitted, and the sequence starts again from `SIA_TOP`.
What the flush leaves is the transport's choice (R60, log 4). -/
def Obligations.SetaddrRetriesAWrongSecondEcho : Prop :=
  ∀ (s : State) (a : List Answer) (x : Option (List Byte)) (r : List Answer),
    s.runsAt .siaTop → s.isOpen = true → s.cancel = false →
    s.rxStream = .byte (hiByte s.siaEcho1) :: .byte (loByte s.siaEcho1) :: a →
    readBytes 2 a = (x, r) → x ≠ some [hiByte s.siaEcho2, loByte s.siaEcho2] →
      ∃ n u, steps n s = .next u ∧ u.runsAt .siaTop ∧ u.curOp = s.curOp ∧ u.linkState = s.linkState ∧ u.ia = s.ia ∧
        u.txStream = s.txStream ++ setaddrBytes s.ia ∧
        (∃ reads, u.events =
            s.events ++
              [.tx 0x22, .tx 0x00, .tx 0x1A, .rx (hiByte s.siaEcho1), .rx (loByte s.siaEcho1), .tx 0x1F, .tx (hiByte s.ia),
                .tx 0x1E, .tx (loByte s.ia), .tx 0x22, .tx 0x01, .delay .tSettle, .tx 0x1A] ++
              reads ++ [.flush .tFlush, .retry .setaddr] ∧
          reads.all (fun e => match e with
            | .rx _ => true
            | .rxTimeout .tShort => true
            | _ => false) = true) ∧
        (∃ k, u.rxStream = r.drop k)

/-- R155, R158: `INIT` on an open transport whose device answers as expected: line parameters once, then `RESET`, `SETADDR`,
`CHKSTATE`, the twelve bytes in order, success with `link_state = Ready`. Nothing else changes. -/
def Obligations.InitBringsTheLinkUp : Prop :=
  ∀ (s : State) (r : List Answer), s.ready → s.isOpen = true → s.cancel = false →
    s.rxStream =
      .byte 0x03 :: .byte (hiByte s.siaEcho1) :: .byte (loByte s.siaEcho1) :: .byte (hiByte s.siaEcho2) ::
        .byte (loByte s.siaEcho2) :: .byte 0x07 :: r →
      ∃ t n, exec .init s = .next t ∧
        steps n t = .next
          { s with
            seq := .idle, busy := false, curOp := .init, rxStream := r, linkState := .ready, resOk := true, resCode := .none,
            retOk := true, retCode := .none, rxb := 0x07, echo := s.siaEcho2, rxTimeout := false, line := some fixedLine,
            txStream := s.txStream ++ [0x01] ++ setaddrBytes s.ia ++ [0x02],
            events :=
              s.events ++ [.start .init, .isOpen true, .configure] ++ linkEvent s.linkState .resetting ++
                [.tx 0x01, .rx 0x03, .state .addressAssigning] ++ setaddrEvents s.ia s.siaEcho1 s.siaEcho2 ++
                [.state .stateChecking, .tx 0x02, .rx 0x07, .state .ready, .done .init true .none] }

/-- R156: on a transport that is not open `INIT` ends at once with `TransportNotOpen`: nothing configured, nothing sent,
`link_state` unchanged, whatever `cancel` is (R195). -/
def Obligations.InitOnAClosedTransport : Prop :=
  ∀ s : State, s.ready → s.isOpen = false →
    ∃ t, exec .init s = .next t ∧
      steps 1 t = .next
        { s with
          seq := .idle, busy := false, curOp := .init, resOk := false, resCode := .transportNotOpen,
          events := s.events ++ [.start .init, .isOpen false, .done .init false .transportNotOpen] }

/-- R140, R155, R158: a `CHKSTATE` called by `INIT` whose answer timed out or is not 0x07 returns to `INI_END` with `ok = 0`, and
`INI_END` after it leads back, with `Retry(INIT)`, to the top of the loop, and from there (with `cancel = 0`) to the entry of
`RESET`. That the return is the micro-step at `CHK_END`, with the pair in `retOk` and `retCode`, is the model's (log 8). -/
def Obligations.InitRetriesFromReset : Prop :=
  (∀ s : State, s.runsAt .chkEnd → s.curOp = .init → s.rxTimeout = true ∨ s.rxb ≠ 0x07 →
    step s = .next
      { s with seq := .iniEnd, retOk := false, retCode := if s.rxTimeout then .timeout else .none } ∧
    (s.cancel = false →
      ∃ n, steps n s = .next
        { s with
          seq := .rstTop, linkState := .resetting, retOk := false, retCode := if s.rxTimeout then .timeout else .none,
          events := s.events ++ [.retry .init] ++ linkEvent s.linkState .resetting })) ∧
  (∀ s : State, s.runsAt .iniEnd → s.curOp = .init → s.retOk = false → s.cancel = false →
    ∃ n, steps n s = .next
      { s with
        seq := .rstTop, linkState := .resetting,
        events := s.events ++ [.retry .init] ++ linkEvent s.linkState .resetting })

/-- R160: `cancel = 1` at the top of an iteration ends a host-started `RESET` or `SETADDR`, the `INIT` loop, and an `INIT`
that has called `RESET` or `SETADDR`, with `Cancelled`; nothing is sent and `link_state` stays. That a cancelled sub-operation
ends `INIT` in that same micro-step, with its pair in `retOk` and `retCode`, is the model's (R24, log 8). -/
def Obligations.CancelEndsTheLoops : Prop :=
  ∀ s : State, s.busy = true → s.moves = [] → s.cancel = true →
    ((s.seq = .rstTop ∧ s.curOp = .reset) ∨ (s.seq = .siaTop ∧ s.curOp = .setaddr) ∨ (s.seq = .iniTop ∧ s.curOp = .init) →
      step s = .next
        { s with
          seq := .idle, busy := false, resOk := false, resCode := .cancelled,
          events := s.events ++ [.done s.curOp false .cancelled] }) ∧
    ((s.seq = .rstTop ∨ s.seq = .siaTop) ∧ s.curOp = .init →
      step s = .next
        { s with
          seq := .idle, busy := false, resOk := false, resCode := .cancelled, retOk := false, retCode := .cancelled,
          events := s.events ++ [.done .init false .cancelled] })

/-- R89, R143, R140, R149: what the expected response does at its label. The reset acknowledgement and the ready byte write
`link_state` and end their operation when the host started it; an echo is compared with its parameter and goes on or fails. That a response which ends a called
operation returns to the caller in the same micro-step, with the pair in `retOk` and `retCode` for `INIT` and none for `READ`,
is the model's (R24, log 8). -/
def Obligations.HandshakeResponses : Prop :=
  ∀ s : State,
    (s.seq = .rstCmp → s.curOp = .reset →
      exec .rxResetAck s = .next
        { s with
          seq := .idle, busy := false, linkState := .addressAssigning, resOk := true, resCode := .none,
          events := s.events ++ linkEvent s.linkState .addressAssigning ++ [.done .reset true .none] }) ∧
    (s.seq = .rstCmp → s.curOp = .init →
      exec .rxResetAck s = .next
        { s with
          seq := .iniSia, linkState := .addressAssigning, retOk := true, retCode := .none,
          events := s.events ++ linkEvent s.linkState .addressAssigning }) ∧
    (s.seq = .chkEnd → s.curOp = .chkstate →
      exec .rxStateReady s = .next
        { s with
          seq := .idle, busy := false, linkState := .ready, resOk := true, resCode := .none,
          events := s.events ++ linkEvent s.linkState .ready ++ [.done .chkstate true .none] }) ∧
    (s.seq = .chkEnd → s.curOp = .init →
      exec .rxStateReady s = .next
        { s with
          seq := .iniEnd, linkState := .ready, retOk := true, retCode := .none,
          events := s.events ++ linkEvent s.linkState .ready }) ∧
    (s.seq = .chkEnd → s.curOp = .read →
      exec .rxStateReady s = .next
        { s with seq := .rdEnd, linkState := .ready, events := s.events ++ linkEvent s.linkState .ready }) ∧
    (s.seq = .sia2c → ∀ e : Pair,
      exec (.rxSiaEcho1 e) s = .next { s with seq := if e = s.siaEcho1 then .sia3a else .siaFail }) ∧
    (s.seq = .sia6c → ∀ e : Pair, e ≠ s.siaEcho2 →
      exec (.rxSiaEcho2 e) s = .next { s with seq := .siaFail }) ∧
    (s.seq = .sia6c → s.curOp = .setaddr →
      exec (.rxSiaEcho2 s.siaEcho2) s = .next
        { s with
          seq := .idle, busy := false, linkState := .stateChecking, resOk := true, resCode := .none,
          events := s.events ++ linkEvent s.linkState .stateChecking ++ [.done .setaddr true .none] }) ∧
    (s.seq = .sia6c → s.curOp = .init →
      exec (.rxSiaEcho2 s.siaEcho2) s = .next
        { s with
          seq := .iniChk, linkState := .stateChecking, retOk := true, retCode := .none,
          events := s.events ++ linkEvent s.linkState .stateChecking })

/-- R82, R143, R147: each command and value byte at each label that sends it, on an open transport: exactly that byte on the TX
stream, the event `Tx`, the next label, and nothing else. The labels of `TX_VALUE` send the operand they are given; that the
engine gives them 0x00, `IA[15:8]`, `IA[7:0]` and 0x01 is the statement about `SETADDR`. -/
def Obligations.CommandAndValueBytes : Prop :=
  ∀ (s : State) (v : Byte) (x : Instr × Label × Byte × Label), s.isOpen = true →
    x ∈ [(.txResetReq, .rstTx, 0x01, .rstRx), (.txWriteProp, .sia1a, 0x22, .sia1b), (.txWriteProp, .sia5a, 0x22, .sia5b),
      (.txReadProp, .sia2a, 0x1A, .sia2b), (.txReadProp, .sia6a, 0x1A, .sia6b), (.txAddrHi, .sia3a, 0x1F, .sia3b),
      (.txAddrLo, .sia4a, 0x1E, .sia4b), (.txValue v, .sia1b, v, .sia2a), (.txValue v, .sia3b, v, .sia4a),
      (.txValue v, .sia4b, v, .sia5a), (.txValue v, .sia5b, v, .sia5c)] →
    s.seq = x.2.1 →
      exec x.1 s = .next
        { s with seq := x.2.2.2, txStream := s.txStream ++ [x.2.2.1], events := s.events ++ [.tx x.2.2.1] }

/-- R140, R82: the state request at `CHK_TX`: `link_state <- StateChecking`, then 0x02 on the TX stream. -/
def Obligations.StateRequestByte : Prop :=
  ∀ s : State, s.isOpen = true → s.seq = .chkTx →
    exec .txStateReq s = .next
      { s with
        seq := .chkRx, linkState := .stateChecking, txStream := s.txStream ++ [0x02],
        events := s.events ++ linkEvent s.linkState .stateChecking ++ [.tx 0x02] }

/-- R146, R60: `FLUSH` on an open transport discards a number of items from the front of the RX stream that is the
transport's choice, records `Flush(T_FLUSH)`, and changes nothing else of the block. -/
def Obligations.FlushDiscardsFromTheFront : Prop :=
  ∀ s : State, s.isOpen = true →
    ∃ k p, exec .flush s = .next
      { s with rxStream := s.rxStream.drop k, flushPlan := p, events := s.events ++ [.flush .tFlush] }

/-! ## Whole-machine rules -/

/-- R22, R24, R30, R35, R37, R50, R51, R117: the invariant holds after reset. That the two echo patterns differ (R149) is
built into the free parameters (log 7). -/
def Obligations.InvariantAtReset : Prop := Inv State.reset

/-- R22, R24, R30, R35, R37, R50, R51, R117: every step keeps the invariant, whichever agent moves. -/
def Obligations.EveryStepKeepsTheInvariant : Prop :=
  ∀ s t : State, Inv s → step s = .next t → Inv t

/-- R112, R125, R126, R174: every step keeps what the accumulator and the received frame hold at each label: the accumulator
is the checksum of the bytes folded so far, and a frame that `DECODE` accepts begins with a control field and has the length
its length byte says. -/
def Obligations.EveryStepKeepsTheFrameInvariant : Prop :=
  ∀ s t : State, Inv s → FrameInv s → step s = .next t → FrameInv t

/-- R50, R121, R192: in a state that meets the invariant no step faults: the engine never leaves a buffer. -/
def Obligations.NoStepFaults : Prop := ∀ (s : State) (f : Fault), Inv s → step s ≠ .fault f

/-- R236: with an open transport every step completes, whichever agent moves (that a `TWrite` always completes is the
model's choice, log 15). -/
def Obligations.EveryStepCompletesOnAnOpenTransport : Prop :=
  ∀ s : State, Inv s → s.isOpen = true → ∃ t, step s = .next t

/-- R163: `link_state` after every step is what the table says: every write of it is a row of the table, and every row
writes. -/
def Obligations.LinkStateFollowsItsTable : Prop :=
  ∀ s t : State, step s = .next t → t.linkState = linkAfter s

/-- R164: `link_state` gates nothing: two states that differ only in it, and in its events, step alike. -/
def Obligations.LinkStateGatesNothing : Prop :=
  ∀ s t : State, forgetLink s = forgetLink t →
    outcomeUpTo forgetLink (step s) = outcomeUpTo forgetLink (step t)

/-- R39, R160: `cancel` is read at `RST_TOP`, `SIA_TOP`, `INI_TOP` and nowhere else: at any other label two states that
differ only in it step alike, and the engine never writes it. -/
def Obligations.CancelIsReadAtThreeLabelsOnly : Prop :=
  (∀ s t : State, readsCancel s.seq = false → forgetCancel s = forgetCancel t →
    outcomeUpTo forgetCancel (step s) = outcomeUpTo forgetCancel (step t)) ∧
  (∀ s t : State, engineNext s.moves = true → step s = .next t → t.cancel = s.cancel)

/-- R32, R50, R70: while `busy = 1` no step changes `TXB`, `tx_len` or `chk_in`, unless it is a hardware reset; and the
engine's steps never do. -/
def Obligations.OperandsAreFrozenWhileBusy : Prop :=
  ∀ s t : State, (s.busy = true ∨ engineNext s.moves = true) → resetNext s.moves = false → step s = .next t →
    t.txLen = s.txLen ∧ t.chkIn = s.chkIn ∧ ∀ a : Nat, t.txbByte a = s.txbByte a

/-- R32, R39: host writes to `TXB`, `tx_len` and `chk_in` take effect while `busy = 0` and are ignored while `busy = 1`; the
host drives `cancel` at any time. The other inputs change at any time too (R34, R213). That an answer of the transport goes
behind those it has in store, and a choice for a flush behind those made in the model's own `flushPlan`, at any time, is the
model's choice (log 3, log 4), under R43, R56 and R60. Every write is the next pending move (the model's choice, log 2). -/
def Obligations.HostWritesTakeEffectWhileIdle : Prop :=
  ∀ (s : State) (r : List HostMove),
    (∀ (i : Fin 63) (b : Byte), s.moves = .writeTxb i b :: r →
      ∃ m : Memory, step s = .next { s with moves := r, txb := m } ∧
        ∀ a : Nat, State.txbByte { s with txb := m } a = if s.busy = false ∧ a = i.val then b else s.txbByte a) ∧
    (∀ n : BitVec 6, s.moves = .writeTxLen n :: r →
      step s = .next { s with moves := r, txLen := if s.busy then s.txLen else n }) ∧
    (∀ b : Byte, s.moves = .writeChkIn b :: r →
      step s = .next { s with moves := r, chkIn := if s.busy then s.chkIn else b }) ∧
    (∀ v : Bool, s.moves = .setCancel v :: r → step s = .next { s with moves := r, cancel := v }) ∧
    (∀ v : Pair, s.moves = .strapIa v :: r → step s = .next { s with moves := r, iaStrap := v }) ∧
    (∀ v : Bool, s.moves = .setOpen v :: r → step s = .next { s with moves := r, isOpen := v }) ∧
    (∀ a : Answer, s.moves = .answer a :: r → step s = .next { s with moves := r, rxStream := s.rxStream ++ [a] }) ∧
    (∀ n : Nat, s.moves = .flushChoice n :: r → step s = .next { s with moves := r, flushPlan := s.flushPlan ++ [n] })

/-- R101: a `LOAD` line of at most 63 bytes on an idle block leaves exactly its bytes as the frame to transmit, and changes
nothing but those bytes of `TXB` and `tx_len`; a longer line has no moves (R98: it cannot be presented). -/
def Obligations.LoadPutsTheFrame : Prop :=
  ∀ bs : List Byte,
    (bs.length ≤ 63 → ∃ ms, (HostLine.load bs).moves = some ms ∧
      ∀ (s : State) (r : List HostMove), s.busy = false → s.moves = ms ++ r →
        ∃ m : Memory, steps ms.length s = .next { s with moves := r, txb := m, txLen := BitVec.ofNat 6 bs.length } ∧
          State.txFrame { s with txb := m, txLen := BitVec.ofNat 6 bs.length } = bs ∧
          ∀ a : Nat, bs.length ≤ a → State.txbByte { s with txb := m } a = s.txbByte a) ∧
    (63 < bs.length → (HostLine.load bs).moves = none)

/-- R34: `IA` changes at a hardware reset only, and then to the configuration input. -/
def Obligations.IaIsConstantBetweenResets : Prop :=
  ∀ s t : State, step s = .next t → t.ia = if resetNext s.moves then s.iaStrap else s.ia

/-- R205, R10, R58: a step that is no hardware reset only appends to the event stream, at most one of its events records a
transport request, and the TX stream grows by exactly the bytes of its `Tx` events. -/
def Obligations.EventsRecordTheTxStream : Prop :=
  ∀ s t : State, resetNext s.moves = false → step s = .next t →
    ∃ es : List Event, t.events = s.events ++ es ∧ (es.countP Event.isRequest) ≤ 1 ∧
      t.txStream = s.txStream ++ txBytesOf es

/-- R36, R37, R190: the result registers are written only by `finish`, which emits `Done` with what it writes and leaves the
block idle, by a reserved code, and by a hardware reset. -/
def Obligations.ResultsAreWrittenByFinish : Prop :=
  ∀ s t : State, resetNext s.moves = false → step s = .next t →
    (t.resOk = s.resOk ∧ t.resCode = s.resCode) ∨
    (∃ es, t.events = s.events ++ es ++ [.done s.curOp t.resOk t.resCode] ∧ t.busy = false ∧ t.seq = .idle) ∨
    (∃ c, t.events = s.events ++ [.illegal c] ∧ t.resOk = false ∧ t.resCode = .illegalOp ∧ t.busy = s.busy)

/-- R38: `conf_pol` is written only by `DECODE` at `DEC_CLS`, 1 for the byte 0x8B and 0 for the byte 0x0B, and by a hardware
reset. -/
def Obligations.PolarityIsWrittenByConfirmations : Prop :=
  ∀ s t : State, resetNext s.moves = false → step s = .next t →
    t.confPol =
      if s.busy = true ∧ engineNext s.moves = true ∧ s.seq = .decCls ∧ s.rxb = 0x8B then true
      else if s.busy = true ∧ engineNext s.moves = true ∧ s.seq = .decCls ∧ s.rxb = 0x0B then false
      else s.confPol

/-- R51: `RXB` is written by `DECODE` only, one byte at a time at index `rx_len`: in every step that is no hardware reset and
does not fail a `DECODE` (after which the content is unspecified, R127), every other byte reads as before, whichever agent
moves. -/
def Obligations.ReceiveBufferIsWrittenByPush : Prop :=
  ∀ s t : State, resetNext s.moves = false → step s = .next t →
    ¬ (owner s.seq = .decode ∧ t.seq = .rdSw ∧ t.retOk = false) →
      (∀ a : Nat, a ≠ s.rxLen.toNat → t.rxbByte a = s.rxbByte a) ∧
      ((owner s.seq = .decode ∧ s.busy = true ∧ engineNext s.moves = true) ∨
        ∀ a : Nat, t.rxbByte a = s.rxbByte a)

/-! ## Reset and stops -/

/-- R44: the values that the table gives for reset. (The rows that R44 leaves unspecified hold free values of the model, log 5
to 7; no statement is about them.) -/
def Obligations.ResetValues : Prop :=
  State.reset.seq = .idle ∧ State.reset.busy = false ∧ State.reset.curOp = .nop ∧
  State.reset.linkState = .uninitialized ∧ State.reset.resOk = false ∧ State.reset.resCode = .none ∧
  State.reset.txLen = 0 ∧ State.reset.rxLen = 0 ∧ State.reset.ia = State.reset.iaStrap ∧ State.reset.events = []

/-- R80, R33, R180: the codes of the host operations, of the link states and of the error kinds, as the tables number them. -/
def Obligations.CodesOfTheTables : Prop :=
  [HostOp.nop, .csum, .verify, .chkstate, .reset, .setaddr, .init, .read, .write].map HostOp.code =
    [0, 1, 2, 3, 4, 5, 6, 7, 8] ∧
  [LinkState.uninitialized, .resetting, .addressAssigning, .stateChecking, .ready].map LinkState.code = [0, 1, 2, 3, 4] ∧
  [ResCode.none, .timeout, .malformedControl, .checksumMismatch, .linkLost, .confirmationOnly, .frameTooShort,
    .transportNotOpen, .cancelled, .illegalOp].map ResCode.code = [0, 1, 2, 3, 4, 5, 6, 7, 8, 9]

/-- R210, R211, R44, R45: `hw_rst` at any time puts the block at the values of R44, with `IA` from its configuration input and
no `Done` event, and touches neither the transport nor the inputs. -/
def Obligations.HardwareResetAtAnyTime : Prop :=
  ∀ (s : State) (r : List HostMove), s.moves = .hwReset :: r →
    ∃ t, step s = .next t ∧
      t.seq = .idle ∧ t.busy = false ∧ t.curOp = .nop ∧ t.linkState = .uninitialized ∧ t.resOk = false ∧
      t.resCode = .none ∧ t.txLen = 0 ∧ t.rxLen = 0 ∧ t.ia = s.iaStrap ∧ t.events = [] ∧
      t.txStream = s.txStream ∧ t.rxStream = s.rxStream ∧ t.isOpen = s.isOpen ∧ t.line = s.line ∧
      t.cancel = s.cancel ∧ t.iaStrap = s.iaStrap ∧ t.siaEcho1 = s.siaEcho1 ∧ t.siaEcho2 = s.siaEcho2 ∧
      t.tSettleMs = s.tSettleMs ∧ t.moves = r

/-- R80, R81: the model's stop (log 11): `DECODE`, `ENCODE` or a wire byte, whatever its operand, at any label but those whose
line performs it, where the spec gives no such step, is refused. (`FLUSH`, `CsInit` and `CsAbsorb` have no label of their own
and are not, log 27.) -/
def Obligations.OffPositionIsRefused : Prop :=
  ∀ (s : State) (i : Instr) (ls : List Label), labelsOf i = some ls → s.seq ∉ ls → exec i s = .refused .offPosition

/-- R229: the model's stop (log 10): on a closed transport, of which no source says what happens, a running operation is
refused at every label whose line makes a `TRead`, `TWrite`, `TFlush` or `TConfigure`, and goes on at every other label. -/
def Obligations.ClosedTransportIsRefused : Prop :=
  ∀ s : State, Inv s → s.busy = true → s.moves = [] → s.isOpen = false →
    (needsTransport s.seq = true → step s = .refused .transportClosed) ∧
    (needsTransport s.seq = false → ∃ t, step s = .next t)
end

