-- ==== Sys2Proof/Laws/State.lean ====
section
/-! SUPPORT. Field by field, what the updates that the meanings are built from do to a state. -/

namespace Sys2Proof.Machine

variable (s : State)

/-! ## `emit` -/

@[simp] theorem emit_seq (e : Event) : (emit e s).seq = s.seq := rfl
@[simp] theorem emit_idx (e : Event) : (emit e s).idx = s.idx := rfl
@[simp] theorem emit_cnt (e : Event) : (emit e s).cnt = s.cnt := rfl
@[simp] theorem emit_busy (e : Event) : (emit e s).busy = s.busy := rfl
@[simp] theorem emit_curOp (e : Event) : (emit e s).curOp = s.curOp := rfl
@[simp] theorem emit_acc (e : Event) : (emit e s).acc = s.acc := rfl
@[simp] theorem emit_chkIn (e : Event) : (emit e s).chkIn = s.chkIn := rfl
@[simp] theorem emit_txLen (e : Event) : (emit e s).txLen = s.txLen := rfl
@[simp] theorem emit_rxLen (e : Event) : (emit e s).rxLen = s.rxLen := rfl
@[simp] theorem emit_rxb (e : Event) : (emit e s).rxb = s.rxb := rfl
@[simp] theorem emit_echo (e : Event) : (emit e s).echo = s.echo := rfl
@[simp] theorem emit_txb (e : Event) : (emit e s).txb = s.txb := rfl
@[simp] theorem emit_rxbuf (e : Event) : (emit e s).rxbuf = s.rxbuf := rfl
@[simp] theorem emit_linkState (e : Event) : (emit e s).linkState = s.linkState := rfl
@[simp] theorem emit_ia (e : Event) : (emit e s).ia = s.ia := rfl
@[simp] theorem emit_resOk (e : Event) : (emit e s).resOk = s.resOk := rfl
@[simp] theorem emit_resCode (e : Event) : (emit e s).resCode = s.resCode := rfl
@[simp] theorem emit_confPol (e : Event) : (emit e s).confPol = s.confPol := rfl
@[simp] theorem emit_cancel (e : Event) : (emit e s).cancel = s.cancel := rfl
@[simp] theorem emit_events (e : Event) : (emit e s).events = s.events ++ [e] := rfl
@[simp] theorem emit_txStream (e : Event) : (emit e s).txStream = s.txStream := rfl
@[simp] theorem emit_rxStream (e : Event) : (emit e s).rxStream = s.rxStream := rfl
@[simp] theorem emit_isOpen (e : Event) : (emit e s).isOpen = s.isOpen := rfl
@[simp] theorem emit_line (e : Event) : (emit e s).line = s.line := rfl
@[simp] theorem emit_rxTimeout (e : Event) : (emit e s).rxTimeout = s.rxTimeout := rfl
@[simp] theorem emit_retOk (e : Event) : (emit e s).retOk = s.retOk := rfl
@[simp] theorem emit_retCode (e : Event) : (emit e s).retCode = s.retCode := rfl
@[simp] theorem emit_flushPlan (e : Event) : (emit e s).flushPlan = s.flushPlan := rfl
@[simp] theorem emit_moves (e : Event) : (emit e s).moves = s.moves := rfl
@[simp] theorem emit_iaStrap (e : Event) : (emit e s).iaStrap = s.iaStrap := rfl
@[simp] theorem emit_siaEcho1 (e : Event) : (emit e s).siaEcho1 = s.siaEcho1 := rfl
@[simp] theorem emit_siaEcho2 (e : Event) : (emit e s).siaEcho2 = s.siaEcho2 := rfl
@[simp] theorem emit_tSettleMs (e : Event) : (emit e s).tSettleMs = s.tSettleMs := rfl
@[simp] theorem emit_epoch (e : Event) : (emit e s).epoch = s.epoch := rfl
@[simp] theorem emit_rxbEpoch (e : Event) : (emit e s).rxbEpoch = s.rxbEpoch := rfl

/-! ## `goto` -/

@[simp] theorem goto_seq (l : Label) : (goto l s).seq = l := rfl
@[simp] theorem goto_idx (l : Label) : (goto l s).idx = s.idx := rfl
@[simp] theorem goto_cnt (l : Label) : (goto l s).cnt = s.cnt := rfl
@[simp] theorem goto_busy (l : Label) : (goto l s).busy = s.busy := rfl
@[simp] theorem goto_curOp (l : Label) : (goto l s).curOp = s.curOp := rfl
@[simp] theorem goto_acc (l : Label) : (goto l s).acc = s.acc := rfl
@[simp] theorem goto_chkIn (l : Label) : (goto l s).chkIn = s.chkIn := rfl
@[simp] theorem goto_txLen (l : Label) : (goto l s).txLen = s.txLen := rfl
@[simp] theorem goto_rxLen (l : Label) : (goto l s).rxLen = s.rxLen := rfl
@[simp] theorem goto_rxb (l : Label) : (goto l s).rxb = s.rxb := rfl
@[simp] theorem goto_echo (l : Label) : (goto l s).echo = s.echo := rfl
@[simp] theorem goto_txb (l : Label) : (goto l s).txb = s.txb := rfl
@[simp] theorem goto_rxbuf (l : Label) : (goto l s).rxbuf = s.rxbuf := rfl
@[simp] theorem goto_linkState (l : Label) : (goto l s).linkState = s.linkState := rfl
@[simp] theorem goto_ia (l : Label) : (goto l s).ia = s.ia := rfl
@[simp] theorem goto_resOk (l : Label) : (goto l s).resOk = s.resOk := rfl
@[simp] theorem goto_resCode (l : Label) : (goto l s).resCode = s.resCode := rfl
@[simp] theorem goto_confPol (l : Label) : (goto l s).confPol = s.confPol := rfl
@[simp] theorem goto_cancel (l : Label) : (goto l s).cancel = s.cancel := rfl
@[simp] theorem goto_events (l : Label) : (goto l s).events = s.events := rfl
@[simp] theorem goto_txStream (l : Label) : (goto l s).txStream = s.txStream := rfl
@[simp] theorem goto_rxStream (l : Label) : (goto l s).rxStream = s.rxStream := rfl
@[simp] theorem goto_isOpen (l : Label) : (goto l s).isOpen = s.isOpen := rfl
@[simp] theorem goto_line (l : Label) : (goto l s).line = s.line := rfl
@[simp] theorem goto_rxTimeout (l : Label) : (goto l s).rxTimeout = s.rxTimeout := rfl
@[simp] theorem goto_retOk (l : Label) : (goto l s).retOk = s.retOk := rfl
@[simp] theorem goto_retCode (l : Label) : (goto l s).retCode = s.retCode := rfl
@[simp] theorem goto_flushPlan (l : Label) : (goto l s).flushPlan = s.flushPlan := rfl
@[simp] theorem goto_moves (l : Label) : (goto l s).moves = s.moves := rfl
@[simp] theorem goto_iaStrap (l : Label) : (goto l s).iaStrap = s.iaStrap := rfl
@[simp] theorem goto_siaEcho1 (l : Label) : (goto l s).siaEcho1 = s.siaEcho1 := rfl
@[simp] theorem goto_siaEcho2 (l : Label) : (goto l s).siaEcho2 = s.siaEcho2 := rfl
@[simp] theorem goto_tSettleMs (l : Label) : (goto l s).tSettleMs = s.tSettleMs := rfl
@[simp] theorem goto_epoch (l : Label) : (goto l s).epoch = s.epoch := rfl
@[simp] theorem goto_rxbEpoch (l : Label) : (goto l s).rxbEpoch = s.rxbEpoch := rfl

/-! ## `twrite` -/

@[simp] theorem twrite_seq (b : Byte) : (twrite b s).seq = s.seq := rfl
@[simp] theorem twrite_idx (b : Byte) : (twrite b s).idx = s.idx := rfl
@[simp] theorem twrite_cnt (b : Byte) : (twrite b s).cnt = s.cnt := rfl
@[simp] theorem twrite_busy (b : Byte) : (twrite b s).busy = s.busy := rfl
@[simp] theorem twrite_curOp (b : Byte) : (twrite b s).curOp = s.curOp := rfl
@[simp] theorem twrite_acc (b : Byte) : (twrite b s).acc = s.acc := rfl
@[simp] theorem twrite_chkIn (b : Byte) : (twrite b s).chkIn = s.chkIn := rfl
@[simp] theorem twrite_txLen (b : Byte) : (twrite b s).txLen = s.txLen := rfl
@[simp] theorem twrite_rxLen (b : Byte) : (twrite b s).rxLen = s.rxLen := rfl
@[simp] theorem twrite_rxb (b : Byte) : (twrite b s).rxb = s.rxb := rfl
@[simp] theorem twrite_echo (b : Byte) : (twrite b s).echo = s.echo := rfl
@[simp] theorem twrite_txb (b : Byte) : (twrite b s).txb = s.txb := rfl
@[simp] theorem twrite_rxbuf (b : Byte) : (twrite b s).rxbuf = s.rxbuf := rfl
@[simp] theorem twrite_linkState (b : Byte) : (twrite b s).linkState = s.linkState := rfl
@[simp] theorem twrite_ia (b : Byte) : (twrite b s).ia = s.ia := rfl
@[simp] theorem twrite_resOk (b : Byte) : (twrite b s).resOk = s.resOk := rfl
@[simp] theorem twrite_resCode (b : Byte) : (twrite b s).resCode = s.resCode := rfl
@[simp] theorem twrite_confPol (b : Byte) : (twrite b s).confPol = s.confPol := rfl
@[simp] theorem twrite_cancel (b : Byte) : (twrite b s).cancel = s.cancel := rfl
@[simp] theorem twrite_events (b : Byte) : (twrite b s).events = s.events ++ [.tx b] := rfl
@[simp] theorem twrite_txStream (b : Byte) : (twrite b s).txStream = s.txStream ++ [b] := rfl
@[simp] theorem twrite_rxStream (b : Byte) : (twrite b s).rxStream = s.rxStream := rfl
@[simp] theorem twrite_isOpen (b : Byte) : (twrite b s).isOpen = s.isOpen := rfl
@[simp] theorem twrite_line (b : Byte) : (twrite b s).line = s.line := rfl
@[simp] theorem twrite_rxTimeout (b : Byte) : (twrite b s).rxTimeout = s.rxTimeout := rfl
@[simp] theorem twrite_retOk (b : Byte) : (twrite b s).retOk = s.retOk := rfl
@[simp] theorem twrite_retCode (b : Byte) : (twrite b s).retCode = s.retCode := rfl
@[simp] theorem twrite_flushPlan (b : Byte) : (twrite b s).flushPlan = s.flushPlan := rfl
@[simp] theorem twrite_moves (b : Byte) : (twrite b s).moves = s.moves := rfl
@[simp] theorem twrite_iaStrap (b : Byte) : (twrite b s).iaStrap = s.iaStrap := rfl
@[simp] theorem twrite_siaEcho1 (b : Byte) : (twrite b s).siaEcho1 = s.siaEcho1 := rfl
@[simp] theorem twrite_siaEcho2 (b : Byte) : (twrite b s).siaEcho2 = s.siaEcho2 := rfl
@[simp] theorem twrite_tSettleMs (b : Byte) : (twrite b s).tSettleMs = s.tSettleMs := rfl
@[simp] theorem twrite_epoch (b : Byte) : (twrite b s).epoch = s.epoch := rfl
@[simp] theorem twrite_rxbEpoch (b : Byte) : (twrite b s).rxbEpoch = s.rxbEpoch := rfl

/-! ## `csInit` -/

@[simp] theorem csInit_seq : (csInit s).seq = s.seq := rfl
@[simp] theorem csInit_idx : (csInit s).idx = s.idx := rfl
@[simp] theorem csInit_cnt : (csInit s).cnt = s.cnt := rfl
@[simp] theorem csInit_busy : (csInit s).busy = s.busy := rfl
@[simp] theorem csInit_curOp : (csInit s).curOp = s.curOp := rfl
@[simp] theorem csInit_acc : (csInit s).acc = csSeed := rfl
@[simp] theorem csInit_chkIn : (csInit s).chkIn = s.chkIn := rfl
@[simp] theorem csInit_txLen : (csInit s).txLen = s.txLen := rfl
@[simp] theorem csInit_rxLen : (csInit s).rxLen = s.rxLen := rfl
@[simp] theorem csInit_rxb : (csInit s).rxb = s.rxb := rfl
@[simp] theorem csInit_echo : (csInit s).echo = s.echo := rfl
@[simp] theorem csInit_txb : (csInit s).txb = s.txb := rfl
@[simp] theorem csInit_rxbuf : (csInit s).rxbuf = s.rxbuf := rfl
@[simp] theorem csInit_linkState : (csInit s).linkState = s.linkState := rfl
@[simp] theorem csInit_ia : (csInit s).ia = s.ia := rfl
@[simp] theorem csInit_resOk : (csInit s).resOk = s.resOk := rfl
@[simp] theorem csInit_resCode : (csInit s).resCode = s.resCode := rfl
@[simp] theorem csInit_confPol : (csInit s).confPol = s.confPol := rfl
@[simp] theorem csInit_cancel : (csInit s).cancel = s.cancel := rfl
@[simp] theorem csInit_events : (csInit s).events = s.events := rfl
@[simp] theorem csInit_txStream : (csInit s).txStream = s.txStream := rfl
@[simp] theorem csInit_rxStream : (csInit s).rxStream = s.rxStream := rfl
@[simp] theorem csInit_isOpen : (csInit s).isOpen = s.isOpen := rfl
@[simp] theorem csInit_line : (csInit s).line = s.line := rfl
@[simp] theorem csInit_rxTimeout : (csInit s).rxTimeout = s.rxTimeout := rfl
@[simp] theorem csInit_retOk : (csInit s).retOk = s.retOk := rfl
@[simp] theorem csInit_retCode : (csInit s).retCode = s.retCode := rfl
@[simp] theorem csInit_flushPlan : (csInit s).flushPlan = s.flushPlan := rfl
@[simp] theorem csInit_moves : (csInit s).moves = s.moves := rfl
@[simp] theorem csInit_iaStrap : (csInit s).iaStrap = s.iaStrap := rfl
@[simp] theorem csInit_siaEcho1 : (csInit s).siaEcho1 = s.siaEcho1 := rfl
@[simp] theorem csInit_siaEcho2 : (csInit s).siaEcho2 = s.siaEcho2 := rfl
@[simp] theorem csInit_tSettleMs : (csInit s).tSettleMs = s.tSettleMs := rfl
@[simp] theorem csInit_epoch : (csInit s).epoch = s.epoch := rfl
@[simp] theorem csInit_rxbEpoch : (csInit s).rxbEpoch = s.rxbEpoch := rfl

/-! ## `csAbsorb` -/

@[simp] theorem csAbsorb_seq (b : Byte) : (csAbsorb b s).seq = s.seq := rfl
@[simp] theorem csAbsorb_idx (b : Byte) : (csAbsorb b s).idx = s.idx := rfl
@[simp] theorem csAbsorb_cnt (b : Byte) : (csAbsorb b s).cnt = s.cnt := rfl
@[simp] theorem csAbsorb_busy (b : Byte) : (csAbsorb b s).busy = s.busy := rfl
@[simp] theorem csAbsorb_curOp (b : Byte) : (csAbsorb b s).curOp = s.curOp := rfl
@[simp] theorem csAbsorb_acc (b : Byte) : (csAbsorb b s).acc = s.acc ^^^ b := rfl
@[simp] theorem csAbsorb_chkIn (b : Byte) : (csAbsorb b s).chkIn = s.chkIn := rfl
@[simp] theorem csAbsorb_txLen (b : Byte) : (csAbsorb b s).txLen = s.txLen := rfl
@[simp] theorem csAbsorb_rxLen (b : Byte) : (csAbsorb b s).rxLen = s.rxLen := rfl
@[simp] theorem csAbsorb_rxb (b : Byte) : (csAbsorb b s).rxb = s.rxb := rfl
@[simp] theorem csAbsorb_echo (b : Byte) : (csAbsorb b s).echo = s.echo := rfl
@[simp] theorem csAbsorb_txb (b : Byte) : (csAbsorb b s).txb = s.txb := rfl
@[simp] theorem csAbsorb_rxbuf (b : Byte) : (csAbsorb b s).rxbuf = s.rxbuf := rfl
@[simp] theorem csAbsorb_linkState (b : Byte) : (csAbsorb b s).linkState = s.linkState := rfl
@[simp] theorem csAbsorb_ia (b : Byte) : (csAbsorb b s).ia = s.ia := rfl
@[simp] theorem csAbsorb_resOk (b : Byte) : (csAbsorb b s).resOk = s.resOk := rfl
@[simp] theorem csAbsorb_resCode (b : Byte) : (csAbsorb b s).resCode = s.resCode := rfl
@[simp] theorem csAbsorb_confPol (b : Byte) : (csAbsorb b s).confPol = s.confPol := rfl
@[simp] theorem csAbsorb_cancel (b : Byte) : (csAbsorb b s).cancel = s.cancel := rfl
@[simp] theorem csAbsorb_events (b : Byte) : (csAbsorb b s).events = s.events := rfl
@[simp] theorem csAbsorb_txStream (b : Byte) : (csAbsorb b s).txStream = s.txStream := rfl
@[simp] theorem csAbsorb_rxStream (b : Byte) : (csAbsorb b s).rxStream = s.rxStream := rfl
@[simp] theorem csAbsorb_isOpen (b : Byte) : (csAbsorb b s).isOpen = s.isOpen := rfl
@[simp] theorem csAbsorb_line (b : Byte) : (csAbsorb b s).line = s.line := rfl
@[simp] theorem csAbsorb_rxTimeout (b : Byte) : (csAbsorb b s).rxTimeout = s.rxTimeout := rfl
@[simp] theorem csAbsorb_retOk (b : Byte) : (csAbsorb b s).retOk = s.retOk := rfl
@[simp] theorem csAbsorb_retCode (b : Byte) : (csAbsorb b s).retCode = s.retCode := rfl
@[simp] theorem csAbsorb_flushPlan (b : Byte) : (csAbsorb b s).flushPlan = s.flushPlan := rfl
@[simp] theorem csAbsorb_moves (b : Byte) : (csAbsorb b s).moves = s.moves := rfl
@[simp] theorem csAbsorb_iaStrap (b : Byte) : (csAbsorb b s).iaStrap = s.iaStrap := rfl
@[simp] theorem csAbsorb_siaEcho1 (b : Byte) : (csAbsorb b s).siaEcho1 = s.siaEcho1 := rfl
@[simp] theorem csAbsorb_siaEcho2 (b : Byte) : (csAbsorb b s).siaEcho2 = s.siaEcho2 := rfl
@[simp] theorem csAbsorb_tSettleMs (b : Byte) : (csAbsorb b s).tSettleMs = s.tSettleMs := rfl
@[simp] theorem csAbsorb_epoch (b : Byte) : (csAbsorb b s).epoch = s.epoch := rfl
@[simp] theorem csAbsorb_rxbEpoch (b : Byte) : (csAbsorb b s).rxbEpoch = s.rxbEpoch := rfl

/-! ## `returnSub` -/

@[simp] theorem returnSub_seq (ok : Bool) (c : ResCode) (l : Label) : (returnSub ok c l s).seq = l := rfl
@[simp] theorem returnSub_idx (ok : Bool) (c : ResCode) (l : Label) : (returnSub ok c l s).idx = s.idx := rfl
@[simp] theorem returnSub_cnt (ok : Bool) (c : ResCode) (l : Label) : (returnSub ok c l s).cnt = s.cnt := rfl
@[simp] theorem returnSub_busy (ok : Bool) (c : ResCode) (l : Label) : (returnSub ok c l s).busy = s.busy := rfl
@[simp] theorem returnSub_curOp (ok : Bool) (c : ResCode) (l : Label) : (returnSub ok c l s).curOp = s.curOp := rfl
@[simp] theorem returnSub_acc (ok : Bool) (c : ResCode) (l : Label) : (returnSub ok c l s).acc = s.acc := rfl
@[simp] theorem returnSub_chkIn (ok : Bool) (c : ResCode) (l : Label) : (returnSub ok c l s).chkIn = s.chkIn := rfl
@[simp] theorem returnSub_txLen (ok : Bool) (c : ResCode) (l : Label) : (returnSub ok c l s).txLen = s.txLen := rfl
@[simp] theorem returnSub_rxLen (ok : Bool) (c : ResCode) (l : Label) : (returnSub ok c l s).rxLen = s.rxLen := rfl
@[simp] theorem returnSub_rxb (ok : Bool) (c : ResCode) (l : Label) : (returnSub ok c l s).rxb = s.rxb := rfl
@[simp] theorem returnSub_echo (ok : Bool) (c : ResCode) (l : Label) : (returnSub ok c l s).echo = s.echo := rfl
@[simp] theorem returnSub_txb (ok : Bool) (c : ResCode) (l : Label) : (returnSub ok c l s).txb = s.txb := rfl
@[simp] theorem returnSub_rxbuf (ok : Bool) (c : ResCode) (l : Label) : (returnSub ok c l s).rxbuf = s.rxbuf := rfl
@[simp] theorem returnSub_linkState (ok : Bool) (c : ResCode) (l : Label) : (returnSub ok c l s).linkState = s.linkState := rfl
@[simp] theorem returnSub_ia (ok : Bool) (c : ResCode) (l : Label) : (returnSub ok c l s).ia = s.ia := rfl
@[simp] theorem returnSub_resOk (ok : Bool) (c : ResCode) (l : Label) : (returnSub ok c l s).resOk = s.resOk := rfl
@[simp] theorem returnSub_resCode (ok : Bool) (c : ResCode) (l : Label) : (returnSub ok c l s).resCode = s.resCode := rfl
@[simp] theorem returnSub_confPol (ok : Bool) (c : ResCode) (l : Label) : (returnSub ok c l s).confPol = s.confPol := rfl
@[simp] theorem returnSub_cancel (ok : Bool) (c : ResCode) (l : Label) : (returnSub ok c l s).cancel = s.cancel := rfl
@[simp] theorem returnSub_events (ok : Bool) (c : ResCode) (l : Label) : (returnSub ok c l s).events = s.events := rfl
@[simp] theorem returnSub_txStream (ok : Bool) (c : ResCode) (l : Label) : (returnSub ok c l s).txStream = s.txStream := rfl
@[simp] theorem returnSub_rxStream (ok : Bool) (c : ResCode) (l : Label) : (returnSub ok c l s).rxStream = s.rxStream := rfl
@[simp] theorem returnSub_isOpen (ok : Bool) (c : ResCode) (l : Label) : (returnSub ok c l s).isOpen = s.isOpen := rfl
@[simp] theorem returnSub_line (ok : Bool) (c : ResCode) (l : Label) : (returnSub ok c l s).line = s.line := rfl
@[simp] theorem returnSub_rxTimeout (ok : Bool) (c : ResCode) (l : Label) : (returnSub ok c l s).rxTimeout = s.rxTimeout := rfl
@[simp] theorem returnSub_retOk (ok : Bool) (c : ResCode) (l : Label) : (returnSub ok c l s).retOk = ok := rfl
@[simp] theorem returnSub_retCode (ok : Bool) (c : ResCode) (l : Label) : (returnSub ok c l s).retCode = c := rfl
@[simp] theorem returnSub_flushPlan (ok : Bool) (c : ResCode) (l : Label) : (returnSub ok c l s).flushPlan = s.flushPlan := rfl
@[simp] theorem returnSub_moves (ok : Bool) (c : ResCode) (l : Label) : (returnSub ok c l s).moves = s.moves := rfl
@[simp] theorem returnSub_iaStrap (ok : Bool) (c : ResCode) (l : Label) : (returnSub ok c l s).iaStrap = s.iaStrap := rfl
@[simp] theorem returnSub_siaEcho1 (ok : Bool) (c : ResCode) (l : Label) : (returnSub ok c l s).siaEcho1 = s.siaEcho1 := rfl
@[simp] theorem returnSub_siaEcho2 (ok : Bool) (c : ResCode) (l : Label) : (returnSub ok c l s).siaEcho2 = s.siaEcho2 := rfl
@[simp] theorem returnSub_tSettleMs (ok : Bool) (c : ResCode) (l : Label) : (returnSub ok c l s).tSettleMs = s.tSettleMs := rfl
@[simp] theorem returnSub_epoch (ok : Bool) (c : ResCode) (l : Label) : (returnSub ok c l s).epoch = s.epoch := rfl
@[simp] theorem returnSub_rxbEpoch (ok : Bool) (c : ResCode) (l : Label) : (returnSub ok c l s).rxbEpoch = s.rxbEpoch := rfl

/-! ## `decodeFail` -/

@[simp] theorem decodeFail_seq (c : ResCode) : (decodeFail c s).seq = .rdSw := rfl
@[simp] theorem decodeFail_idx (c : ResCode) : (decodeFail c s).idx = s.idx := rfl
@[simp] theorem decodeFail_cnt (c : ResCode) : (decodeFail c s).cnt = s.cnt := rfl
@[simp] theorem decodeFail_busy (c : ResCode) : (decodeFail c s).busy = s.busy := rfl
@[simp] theorem decodeFail_curOp (c : ResCode) : (decodeFail c s).curOp = s.curOp := rfl
@[simp] theorem decodeFail_acc (c : ResCode) : (decodeFail c s).acc = s.acc := rfl
@[simp] theorem decodeFail_chkIn (c : ResCode) : (decodeFail c s).chkIn = s.chkIn := rfl
@[simp] theorem decodeFail_txLen (c : ResCode) : (decodeFail c s).txLen = s.txLen := rfl
@[simp] theorem decodeFail_rxLen (c : ResCode) : (decodeFail c s).rxLen = 0 := rfl
@[simp] theorem decodeFail_rxb (c : ResCode) : (decodeFail c s).rxb = s.rxb := rfl
@[simp] theorem decodeFail_echo (c : ResCode) : (decodeFail c s).echo = s.echo := rfl
@[simp] theorem decodeFail_txb (c : ResCode) : (decodeFail c s).txb = s.txb := rfl
@[simp] theorem decodeFail_rxbuf (c : ResCode) : (decodeFail c s).rxbuf = [] := rfl
@[simp] theorem decodeFail_linkState (c : ResCode) : (decodeFail c s).linkState = s.linkState := rfl
@[simp] theorem decodeFail_ia (c : ResCode) : (decodeFail c s).ia = s.ia := rfl
@[simp] theorem decodeFail_resOk (c : ResCode) : (decodeFail c s).resOk = s.resOk := rfl
@[simp] theorem decodeFail_resCode (c : ResCode) : (decodeFail c s).resCode = s.resCode := rfl
@[simp] theorem decodeFail_confPol (c : ResCode) : (decodeFail c s).confPol = s.confPol := rfl
@[simp] theorem decodeFail_cancel (c : ResCode) : (decodeFail c s).cancel = s.cancel := rfl
@[simp] theorem decodeFail_events (c : ResCode) : (decodeFail c s).events = s.events := rfl
@[simp] theorem decodeFail_txStream (c : ResCode) : (decodeFail c s).txStream = s.txStream := rfl
@[simp] theorem decodeFail_rxStream (c : ResCode) : (decodeFail c s).rxStream = s.rxStream := rfl
@[simp] theorem decodeFail_isOpen (c : ResCode) : (decodeFail c s).isOpen = s.isOpen := rfl
@[simp] theorem decodeFail_line (c : ResCode) : (decodeFail c s).line = s.line := rfl
@[simp] theorem decodeFail_rxTimeout (c : ResCode) : (decodeFail c s).rxTimeout = s.rxTimeout := rfl
@[simp] theorem decodeFail_retOk (c : ResCode) : (decodeFail c s).retOk = false := rfl
@[simp] theorem decodeFail_retCode (c : ResCode) : (decodeFail c s).retCode = c := rfl
@[simp] theorem decodeFail_flushPlan (c : ResCode) : (decodeFail c s).flushPlan = s.flushPlan := rfl
@[simp] theorem decodeFail_moves (c : ResCode) : (decodeFail c s).moves = s.moves := rfl
@[simp] theorem decodeFail_iaStrap (c : ResCode) : (decodeFail c s).iaStrap = s.iaStrap := rfl
@[simp] theorem decodeFail_siaEcho1 (c : ResCode) : (decodeFail c s).siaEcho1 = s.siaEcho1 := rfl
@[simp] theorem decodeFail_siaEcho2 (c : ResCode) : (decodeFail c s).siaEcho2 = s.siaEcho2 := rfl
@[simp] theorem decodeFail_tSettleMs (c : ResCode) : (decodeFail c s).tSettleMs = s.tSettleMs := rfl
@[simp] theorem decodeFail_epoch (c : ResCode) : (decodeFail c s).epoch = s.epoch := rfl
@[simp] theorem decodeFail_rxbEpoch (c : ResCode) : (decodeFail c s).rxbEpoch = s.rxbEpoch + 1 := rfl

/-! ## `finish` -/

@[simp] theorem finish_seq (ok : Bool) (c : ResCode) : (finish ok c s).seq = .idle := rfl
@[simp] theorem finish_idx (ok : Bool) (c : ResCode) : (finish ok c s).idx = s.idx := rfl
@[simp] theorem finish_cnt (ok : Bool) (c : ResCode) : (finish ok c s).cnt = s.cnt := rfl
@[simp] theorem finish_busy (ok : Bool) (c : ResCode) : (finish ok c s).busy = false := rfl
@[simp] theorem finish_curOp (ok : Bool) (c : ResCode) : (finish ok c s).curOp = s.curOp := rfl
@[simp] theorem finish_acc (ok : Bool) (c : ResCode) : (finish ok c s).acc = s.acc := rfl
@[simp] theorem finish_chkIn (ok : Bool) (c : ResCode) : (finish ok c s).chkIn = s.chkIn := rfl
@[simp] theorem finish_txLen (ok : Bool) (c : ResCode) : (finish ok c s).txLen = s.txLen := rfl
@[simp] theorem finish_rxLen (ok : Bool) (c : ResCode) : (finish ok c s).rxLen = s.rxLen := rfl
@[simp] theorem finish_rxb (ok : Bool) (c : ResCode) : (finish ok c s).rxb = s.rxb := rfl
@[simp] theorem finish_echo (ok : Bool) (c : ResCode) : (finish ok c s).echo = s.echo := rfl
@[simp] theorem finish_txb (ok : Bool) (c : ResCode) : (finish ok c s).txb = s.txb := rfl
@[simp] theorem finish_rxbuf (ok : Bool) (c : ResCode) : (finish ok c s).rxbuf = s.rxbuf := rfl
@[simp] theorem finish_linkState (ok : Bool) (c : ResCode) : (finish ok c s).linkState = s.linkState := rfl
@[simp] theorem finish_ia (ok : Bool) (c : ResCode) : (finish ok c s).ia = s.ia := rfl
@[simp] theorem finish_resOk (ok : Bool) (c : ResCode) : (finish ok c s).resOk = ok := rfl
@[simp] theorem finish_resCode (ok : Bool) (c : ResCode) : (finish ok c s).resCode = c := rfl
@[simp] theorem finish_confPol (ok : Bool) (c : ResCode) : (finish ok c s).confPol = s.confPol := rfl
@[simp] theorem finish_cancel (ok : Bool) (c : ResCode) : (finish ok c s).cancel = s.cancel := rfl
@[simp] theorem finish_events (ok : Bool) (c : ResCode) : (finish ok c s).events = s.events ++ [.done s.curOp ok c] := rfl
@[simp] theorem finish_txStream (ok : Bool) (c : ResCode) : (finish ok c s).txStream = s.txStream := rfl
@[simp] theorem finish_rxStream (ok : Bool) (c : ResCode) : (finish ok c s).rxStream = s.rxStream := rfl
@[simp] theorem finish_isOpen (ok : Bool) (c : ResCode) : (finish ok c s).isOpen = s.isOpen := rfl
@[simp] theorem finish_line (ok : Bool) (c : ResCode) : (finish ok c s).line = s.line := rfl
@[simp] theorem finish_rxTimeout (ok : Bool) (c : ResCode) : (finish ok c s).rxTimeout = s.rxTimeout := rfl
@[simp] theorem finish_retOk (ok : Bool) (c : ResCode) : (finish ok c s).retOk = s.retOk := rfl
@[simp] theorem finish_retCode (ok : Bool) (c : ResCode) : (finish ok c s).retCode = s.retCode := rfl
@[simp] theorem finish_flushPlan (ok : Bool) (c : ResCode) : (finish ok c s).flushPlan = s.flushPlan := rfl
@[simp] theorem finish_moves (ok : Bool) (c : ResCode) : (finish ok c s).moves = s.moves := rfl
@[simp] theorem finish_iaStrap (ok : Bool) (c : ResCode) : (finish ok c s).iaStrap = s.iaStrap := rfl
@[simp] theorem finish_siaEcho1 (ok : Bool) (c : ResCode) : (finish ok c s).siaEcho1 = s.siaEcho1 := rfl
@[simp] theorem finish_siaEcho2 (ok : Bool) (c : ResCode) : (finish ok c s).siaEcho2 = s.siaEcho2 := rfl
@[simp] theorem finish_tSettleMs (ok : Bool) (c : ResCode) : (finish ok c s).tSettleMs = s.tSettleMs := rfl
@[simp] theorem finish_epoch (ok : Bool) (c : ResCode) : (finish ok c s).epoch = s.epoch := rfl
@[simp] theorem finish_rxbEpoch (ok : Bool) (c : ResCode) : (finish ok c s).rxbEpoch = s.rxbEpoch := rfl

/-! ## `setLink` -/

@[simp] theorem setLink_seq (v : LinkState) : (setLink v s).seq = s.seq := by
  unfold setLink; split <;> rfl
@[simp] theorem setLink_idx (v : LinkState) : (setLink v s).idx = s.idx := by
  unfold setLink; split <;> rfl
@[simp] theorem setLink_cnt (v : LinkState) : (setLink v s).cnt = s.cnt := by
  unfold setLink; split <;> rfl
@[simp] theorem setLink_busy (v : LinkState) : (setLink v s).busy = s.busy := by
  unfold setLink; split <;> rfl
@[simp] theorem setLink_curOp (v : LinkState) : (setLink v s).curOp = s.curOp := by
  unfold setLink; split <;> rfl
@[simp] theorem setLink_acc (v : LinkState) : (setLink v s).acc = s.acc := by
  unfold setLink; split <;> rfl
@[simp] theorem setLink_chkIn (v : LinkState) : (setLink v s).chkIn = s.chkIn := by
  unfold setLink; split <;> rfl
@[simp] theorem setLink_txLen (v : LinkState) : (setLink v s).txLen = s.txLen := by
  unfold setLink; split <;> rfl
@[simp] theorem setLink_rxLen (v : LinkState) : (setLink v s).rxLen = s.rxLen := by
  unfold setLink; split <;> rfl
@[simp] theorem setLink_rxb (v : LinkState) : (setLink v s).rxb = s.rxb := by
  unfold setLink; split <;> rfl
@[simp] theorem setLink_echo (v : LinkState) : (setLink v s).echo = s.echo := by
  unfold setLink; split <;> rfl
@[simp] theorem setLink_txb (v : LinkState) : (setLink v s).txb = s.txb := by
  unfold setLink; split <;> rfl
@[simp] theorem setLink_rxbuf (v : LinkState) : (setLink v s).rxbuf = s.rxbuf := by
  unfold setLink; split <;> rfl
@[simp] theorem setLink_linkState (v : LinkState) : (setLink v s).linkState = v := by
  unfold setLink; split <;> simp_all
@[simp] theorem setLink_ia (v : LinkState) : (setLink v s).ia = s.ia := by
  unfold setLink; split <;> rfl
@[simp] theorem setLink_resOk (v : LinkState) : (setLink v s).resOk = s.resOk := by
  unfold setLink; split <;> rfl
@[simp] theorem setLink_resCode (v : LinkState) : (setLink v s).resCode = s.resCode := by
  unfold setLink; split <;> rfl
@[simp] theorem setLink_confPol (v : LinkState) : (setLink v s).confPol = s.confPol := by
  unfold setLink; split <;> rfl
@[simp] theorem setLink_cancel (v : LinkState) : (setLink v s).cancel = s.cancel := by
  unfold setLink; split <;> rfl
theorem setLink_events (v : LinkState) :
    (setLink v s).events = s.events ++ (if s.linkState = v then [] else [.state v]) := by
  unfold setLink; split <;> simp
@[simp] theorem setLink_txStream (v : LinkState) : (setLink v s).txStream = s.txStream := by
  unfold setLink; split <;> rfl
@[simp] theorem setLink_rxStream (v : LinkState) : (setLink v s).rxStream = s.rxStream := by
  unfold setLink; split <;> rfl
@[simp] theorem setLink_isOpen (v : LinkState) : (setLink v s).isOpen = s.isOpen := by
  unfold setLink; split <;> rfl
@[simp] theorem setLink_line (v : LinkState) : (setLink v s).line = s.line := by
  unfold setLink; split <;> rfl
@[simp] theorem setLink_rxTimeout (v : LinkState) : (setLink v s).rxTimeout = s.rxTimeout := by
  unfold setLink; split <;> rfl
@[simp] theorem setLink_retOk (v : LinkState) : (setLink v s).retOk = s.retOk := by
  unfold setLink; split <;> rfl
@[simp] theorem setLink_retCode (v : LinkState) : (setLink v s).retCode = s.retCode := by
  unfold setLink; split <;> rfl
@[simp] theorem setLink_flushPlan (v : LinkState) : (setLink v s).flushPlan = s.flushPlan := by
  unfold setLink; split <;> rfl
@[simp] theorem setLink_moves (v : LinkState) : (setLink v s).moves = s.moves := by
  unfold setLink; split <;> rfl
@[simp] theorem setLink_iaStrap (v : LinkState) : (setLink v s).iaStrap = s.iaStrap := by
  unfold setLink; split <;> rfl
@[simp] theorem setLink_siaEcho1 (v : LinkState) : (setLink v s).siaEcho1 = s.siaEcho1 := by
  unfold setLink; split <;> rfl
@[simp] theorem setLink_siaEcho2 (v : LinkState) : (setLink v s).siaEcho2 = s.siaEcho2 := by
  unfold setLink; split <;> rfl
@[simp] theorem setLink_tSettleMs (v : LinkState) : (setLink v s).tSettleMs = s.tSettleMs := by
  unfold setLink; split <;> rfl
@[simp] theorem setLink_epoch (v : LinkState) : (setLink v s).epoch = s.epoch := by
  unfold setLink; split <;> rfl
@[simp] theorem setLink_rxbEpoch (v : LinkState) : (setLink v s).rxbEpoch = s.rxbEpoch := by
  unfold setLink; split <;> rfl

end Sys2Proof.Machine
end

