-- ==== Sys2Proof/Laws/Ends.lean ====
section
/-! SUPPORT. Field by field, what the end of a `RESET`, a `SETADDR` or a `CHKSTATE` does to a state. -/

namespace Sys2Proof.Machine

variable (s : State)

/-! ## `endReset` -/

@[simp] theorem endReset_idx (ok : Bool) (c : ResCode) : (endReset ok c s).idx = s.idx := by
  unfold endReset; repeat' split
  all_goals rfl
@[simp] theorem endReset_cnt (ok : Bool) (c : ResCode) : (endReset ok c s).cnt = s.cnt := by
  unfold endReset; repeat' split
  all_goals rfl
@[simp] theorem endReset_curOp (ok : Bool) (c : ResCode) : (endReset ok c s).curOp = s.curOp := by
  unfold endReset; repeat' split
  all_goals rfl
@[simp] theorem endReset_acc (ok : Bool) (c : ResCode) : (endReset ok c s).acc = s.acc := by
  unfold endReset; repeat' split
  all_goals rfl
@[simp] theorem endReset_chkIn (ok : Bool) (c : ResCode) : (endReset ok c s).chkIn = s.chkIn := by
  unfold endReset; repeat' split
  all_goals rfl
@[simp] theorem endReset_txLen (ok : Bool) (c : ResCode) : (endReset ok c s).txLen = s.txLen := by
  unfold endReset; repeat' split
  all_goals rfl
@[simp] theorem endReset_rxLen (ok : Bool) (c : ResCode) : (endReset ok c s).rxLen = s.rxLen := by
  unfold endReset; repeat' split
  all_goals rfl
@[simp] theorem endReset_rxb (ok : Bool) (c : ResCode) : (endReset ok c s).rxb = s.rxb := by
  unfold endReset; repeat' split
  all_goals rfl
@[simp] theorem endReset_echo (ok : Bool) (c : ResCode) : (endReset ok c s).echo = s.echo := by
  unfold endReset; repeat' split
  all_goals rfl
@[simp] theorem endReset_txb (ok : Bool) (c : ResCode) : (endReset ok c s).txb = s.txb := by
  unfold endReset; repeat' split
  all_goals rfl
@[simp] theorem endReset_rxbuf (ok : Bool) (c : ResCode) : (endReset ok c s).rxbuf = s.rxbuf := by
  unfold endReset; repeat' split
  all_goals rfl
@[simp] theorem endReset_linkState (ok : Bool) (c : ResCode) : (endReset ok c s).linkState = s.linkState := by
  unfold endReset; repeat' split
  all_goals rfl
@[simp] theorem endReset_ia (ok : Bool) (c : ResCode) : (endReset ok c s).ia = s.ia := by
  unfold endReset; repeat' split
  all_goals rfl
@[simp] theorem endReset_confPol (ok : Bool) (c : ResCode) : (endReset ok c s).confPol = s.confPol := by
  unfold endReset; repeat' split
  all_goals rfl
@[simp] theorem endReset_cancel (ok : Bool) (c : ResCode) : (endReset ok c s).cancel = s.cancel := by
  unfold endReset; repeat' split
  all_goals rfl
@[simp] theorem endReset_txStream (ok : Bool) (c : ResCode) : (endReset ok c s).txStream = s.txStream := by
  unfold endReset; repeat' split
  all_goals rfl
@[simp] theorem endReset_rxStream (ok : Bool) (c : ResCode) : (endReset ok c s).rxStream = s.rxStream := by
  unfold endReset; repeat' split
  all_goals rfl
@[simp] theorem endReset_isOpen (ok : Bool) (c : ResCode) : (endReset ok c s).isOpen = s.isOpen := by
  unfold endReset; repeat' split
  all_goals rfl
@[simp] theorem endReset_line (ok : Bool) (c : ResCode) : (endReset ok c s).line = s.line := by
  unfold endReset; repeat' split
  all_goals rfl
@[simp] theorem endReset_rxTimeout (ok : Bool) (c : ResCode) : (endReset ok c s).rxTimeout = s.rxTimeout := by
  unfold endReset; repeat' split
  all_goals rfl
@[simp] theorem endReset_flushPlan (ok : Bool) (c : ResCode) : (endReset ok c s).flushPlan = s.flushPlan := by
  unfold endReset; repeat' split
  all_goals rfl
@[simp] theorem endReset_moves (ok : Bool) (c : ResCode) : (endReset ok c s).moves = s.moves := by
  unfold endReset; repeat' split
  all_goals rfl
@[simp] theorem endReset_iaStrap (ok : Bool) (c : ResCode) : (endReset ok c s).iaStrap = s.iaStrap := by
  unfold endReset; repeat' split
  all_goals rfl
@[simp] theorem endReset_siaEcho1 (ok : Bool) (c : ResCode) : (endReset ok c s).siaEcho1 = s.siaEcho1 := by
  unfold endReset; repeat' split
  all_goals rfl
@[simp] theorem endReset_siaEcho2 (ok : Bool) (c : ResCode) : (endReset ok c s).siaEcho2 = s.siaEcho2 := by
  unfold endReset; repeat' split
  all_goals rfl
@[simp] theorem endReset_tSettleMs (ok : Bool) (c : ResCode) : (endReset ok c s).tSettleMs = s.tSettleMs := by
  unfold endReset; repeat' split
  all_goals rfl
@[simp] theorem endReset_epoch (ok : Bool) (c : ResCode) : (endReset ok c s).epoch = s.epoch := by
  unfold endReset; repeat' split
  all_goals rfl
@[simp] theorem endReset_rxbEpoch (ok : Bool) (c : ResCode) : (endReset ok c s).rxbEpoch = s.rxbEpoch := by
  unfold endReset; repeat' split
  all_goals rfl

/-! ## `endSetaddr` -/

@[simp] theorem endSetaddr_idx (ok : Bool) (c : ResCode) : (endSetaddr ok c s).idx = s.idx := by
  unfold endSetaddr; repeat' split
  all_goals rfl
@[simp] theorem endSetaddr_cnt (ok : Bool) (c : ResCode) : (endSetaddr ok c s).cnt = s.cnt := by
  unfold endSetaddr; repeat' split
  all_goals rfl
@[simp] theorem endSetaddr_curOp (ok : Bool) (c : ResCode) : (endSetaddr ok c s).curOp = s.curOp := by
  unfold endSetaddr; repeat' split
  all_goals rfl
@[simp] theorem endSetaddr_acc (ok : Bool) (c : ResCode) : (endSetaddr ok c s).acc = s.acc := by
  unfold endSetaddr; repeat' split
  all_goals rfl
@[simp] theorem endSetaddr_chkIn (ok : Bool) (c : ResCode) : (endSetaddr ok c s).chkIn = s.chkIn := by
  unfold endSetaddr; repeat' split
  all_goals rfl
@[simp] theorem endSetaddr_txLen (ok : Bool) (c : ResCode) : (endSetaddr ok c s).txLen = s.txLen := by
  unfold endSetaddr; repeat' split
  all_goals rfl
@[simp] theorem endSetaddr_rxLen (ok : Bool) (c : ResCode) : (endSetaddr ok c s).rxLen = s.rxLen := by
  unfold endSetaddr; repeat' split
  all_goals rfl
@[simp] theorem endSetaddr_rxb (ok : Bool) (c : ResCode) : (endSetaddr ok c s).rxb = s.rxb := by
  unfold endSetaddr; repeat' split
  all_goals rfl
@[simp] theorem endSetaddr_echo (ok : Bool) (c : ResCode) : (endSetaddr ok c s).echo = s.echo := by
  unfold endSetaddr; repeat' split
  all_goals rfl
@[simp] theorem endSetaddr_txb (ok : Bool) (c : ResCode) : (endSetaddr ok c s).txb = s.txb := by
  unfold endSetaddr; repeat' split
  all_goals rfl
@[simp] theorem endSetaddr_rxbuf (ok : Bool) (c : ResCode) : (endSetaddr ok c s).rxbuf = s.rxbuf := by
  unfold endSetaddr; repeat' split
  all_goals rfl
@[simp] theorem endSetaddr_linkState (ok : Bool) (c : ResCode) : (endSetaddr ok c s).linkState = s.linkState := by
  unfold endSetaddr; repeat' split
  all_goals rfl
@[simp] theorem endSetaddr_ia (ok : Bool) (c : ResCode) : (endSetaddr ok c s).ia = s.ia := by
  unfold endSetaddr; repeat' split
  all_goals rfl
@[simp] theorem endSetaddr_confPol (ok : Bool) (c : ResCode) : (endSetaddr ok c s).confPol = s.confPol := by
  unfold endSetaddr; repeat' split
  all_goals rfl
@[simp] theorem endSetaddr_cancel (ok : Bool) (c : ResCode) : (endSetaddr ok c s).cancel = s.cancel := by
  unfold endSetaddr; repeat' split
  all_goals rfl
@[simp] theorem endSetaddr_txStream (ok : Bool) (c : ResCode) : (endSetaddr ok c s).txStream = s.txStream := by
  unfold endSetaddr; repeat' split
  all_goals rfl
@[simp] theorem endSetaddr_rxStream (ok : Bool) (c : ResCode) : (endSetaddr ok c s).rxStream = s.rxStream := by
  unfold endSetaddr; repeat' split
  all_goals rfl
@[simp] theorem endSetaddr_isOpen (ok : Bool) (c : ResCode) : (endSetaddr ok c s).isOpen = s.isOpen := by
  unfold endSetaddr; repeat' split
  all_goals rfl
@[simp] theorem endSetaddr_line (ok : Bool) (c : ResCode) : (endSetaddr ok c s).line = s.line := by
  unfold endSetaddr; repeat' split
  all_goals rfl
@[simp] theorem endSetaddr_rxTimeout (ok : Bool) (c : ResCode) : (endSetaddr ok c s).rxTimeout = s.rxTimeout := by
  unfold endSetaddr; repeat' split
  all_goals rfl
@[simp] theorem endSetaddr_flushPlan (ok : Bool) (c : ResCode) : (endSetaddr ok c s).flushPlan = s.flushPlan := by
  unfold endSetaddr; repeat' split
  all_goals rfl
@[simp] theorem endSetaddr_moves (ok : Bool) (c : ResCode) : (endSetaddr ok c s).moves = s.moves := by
  unfold endSetaddr; repeat' split
  all_goals rfl
@[simp] theorem endSetaddr_iaStrap (ok : Bool) (c : ResCode) : (endSetaddr ok c s).iaStrap = s.iaStrap := by
  unfold endSetaddr; repeat' split
  all_goals rfl
@[simp] theorem endSetaddr_siaEcho1 (ok : Bool) (c : ResCode) : (endSetaddr ok c s).siaEcho1 = s.siaEcho1 := by
  unfold endSetaddr; repeat' split
  all_goals rfl
@[simp] theorem endSetaddr_siaEcho2 (ok : Bool) (c : ResCode) : (endSetaddr ok c s).siaEcho2 = s.siaEcho2 := by
  unfold endSetaddr; repeat' split
  all_goals rfl
@[simp] theorem endSetaddr_tSettleMs (ok : Bool) (c : ResCode) : (endSetaddr ok c s).tSettleMs = s.tSettleMs := by
  unfold endSetaddr; repeat' split
  all_goals rfl
@[simp] theorem endSetaddr_epoch (ok : Bool) (c : ResCode) : (endSetaddr ok c s).epoch = s.epoch := by
  unfold endSetaddr; repeat' split
  all_goals rfl
@[simp] theorem endSetaddr_rxbEpoch (ok : Bool) (c : ResCode) : (endSetaddr ok c s).rxbEpoch = s.rxbEpoch := by
  unfold endSetaddr; repeat' split
  all_goals rfl

/-! ## `endChkstate` -/

@[simp] theorem endChkstate_idx (ok : Bool) (c : ResCode) : (endChkstate ok c s).idx = s.idx := by
  unfold endChkstate; repeat' split
  all_goals rfl
@[simp] theorem endChkstate_cnt (ok : Bool) (c : ResCode) : (endChkstate ok c s).cnt = s.cnt := by
  unfold endChkstate; repeat' split
  all_goals rfl
@[simp] theorem endChkstate_curOp (ok : Bool) (c : ResCode) : (endChkstate ok c s).curOp = s.curOp := by
  unfold endChkstate; repeat' split
  all_goals rfl
@[simp] theorem endChkstate_acc (ok : Bool) (c : ResCode) : (endChkstate ok c s).acc = s.acc := by
  unfold endChkstate; repeat' split
  all_goals rfl
@[simp] theorem endChkstate_chkIn (ok : Bool) (c : ResCode) : (endChkstate ok c s).chkIn = s.chkIn := by
  unfold endChkstate; repeat' split
  all_goals rfl
@[simp] theorem endChkstate_txLen (ok : Bool) (c : ResCode) : (endChkstate ok c s).txLen = s.txLen := by
  unfold endChkstate; repeat' split
  all_goals rfl
@[simp] theorem endChkstate_rxLen (ok : Bool) (c : ResCode) : (endChkstate ok c s).rxLen = s.rxLen := by
  unfold endChkstate; repeat' split
  all_goals rfl
@[simp] theorem endChkstate_rxb (ok : Bool) (c : ResCode) : (endChkstate ok c s).rxb = s.rxb := by
  unfold endChkstate; repeat' split
  all_goals rfl
@[simp] theorem endChkstate_echo (ok : Bool) (c : ResCode) : (endChkstate ok c s).echo = s.echo := by
  unfold endChkstate; repeat' split
  all_goals rfl
@[simp] theorem endChkstate_txb (ok : Bool) (c : ResCode) : (endChkstate ok c s).txb = s.txb := by
  unfold endChkstate; repeat' split
  all_goals rfl
@[simp] theorem endChkstate_rxbuf (ok : Bool) (c : ResCode) : (endChkstate ok c s).rxbuf = s.rxbuf := by
  unfold endChkstate; repeat' split
  all_goals rfl
@[simp] theorem endChkstate_linkState (ok : Bool) (c : ResCode) : (endChkstate ok c s).linkState = s.linkState := by
  unfold endChkstate; repeat' split
  all_goals rfl
@[simp] theorem endChkstate_ia (ok : Bool) (c : ResCode) : (endChkstate ok c s).ia = s.ia := by
  unfold endChkstate; repeat' split
  all_goals rfl
@[simp] theorem endChkstate_confPol (ok : Bool) (c : ResCode) : (endChkstate ok c s).confPol = s.confPol := by
  unfold endChkstate; repeat' split
  all_goals rfl
@[simp] theorem endChkstate_cancel (ok : Bool) (c : ResCode) : (endChkstate ok c s).cancel = s.cancel := by
  unfold endChkstate; repeat' split
  all_goals rfl
@[simp] theorem endChkstate_txStream (ok : Bool) (c : ResCode) : (endChkstate ok c s).txStream = s.txStream := by
  unfold endChkstate; repeat' split
  all_goals rfl
@[simp] theorem endChkstate_rxStream (ok : Bool) (c : ResCode) : (endChkstate ok c s).rxStream = s.rxStream := by
  unfold endChkstate; repeat' split
  all_goals rfl
@[simp] theorem endChkstate_isOpen (ok : Bool) (c : ResCode) : (endChkstate ok c s).isOpen = s.isOpen := by
  unfold endChkstate; repeat' split
  all_goals rfl
@[simp] theorem endChkstate_line (ok : Bool) (c : ResCode) : (endChkstate ok c s).line = s.line := by
  unfold endChkstate; repeat' split
  all_goals rfl
@[simp] theorem endChkstate_rxTimeout (ok : Bool) (c : ResCode) : (endChkstate ok c s).rxTimeout = s.rxTimeout := by
  unfold endChkstate; repeat' split
  all_goals rfl
@[simp] theorem endChkstate_flushPlan (ok : Bool) (c : ResCode) : (endChkstate ok c s).flushPlan = s.flushPlan := by
  unfold endChkstate; repeat' split
  all_goals rfl
@[simp] theorem endChkstate_moves (ok : Bool) (c : ResCode) : (endChkstate ok c s).moves = s.moves := by
  unfold endChkstate; repeat' split
  all_goals rfl
@[simp] theorem endChkstate_iaStrap (ok : Bool) (c : ResCode) : (endChkstate ok c s).iaStrap = s.iaStrap := by
  unfold endChkstate; repeat' split
  all_goals rfl
@[simp] theorem endChkstate_siaEcho1 (ok : Bool) (c : ResCode) : (endChkstate ok c s).siaEcho1 = s.siaEcho1 := by
  unfold endChkstate; repeat' split
  all_goals rfl
@[simp] theorem endChkstate_siaEcho2 (ok : Bool) (c : ResCode) : (endChkstate ok c s).siaEcho2 = s.siaEcho2 := by
  unfold endChkstate; repeat' split
  all_goals rfl
@[simp] theorem endChkstate_tSettleMs (ok : Bool) (c : ResCode) : (endChkstate ok c s).tSettleMs = s.tSettleMs := by
  unfold endChkstate; repeat' split
  all_goals rfl
@[simp] theorem endChkstate_epoch (ok : Bool) (c : ResCode) : (endChkstate ok c s).epoch = s.epoch := by
  unfold endChkstate; repeat' split
  all_goals rfl
@[simp] theorem endChkstate_rxbEpoch (ok : Bool) (c : ResCode) : (endChkstate ok c s).rxbEpoch = s.rxbEpoch := by
  unfold endChkstate; repeat' split
  all_goals rfl

end Sys2Proof.Machine
end

