-- ==== Sys2Proof/Laws/Memory.lean ====
section
/-! SUPPORT. The buffers: a read after a write, and the canonical form that every write keeps. -/

namespace Sys2Proof.Machine

/-- A read after a write gives the byte written at its index and what stood there at every other. -/
theorem Memory.read?_write (m : Memory) (i j : Nat) (b : Byte) :
    Memory.read? (Memory.write m i b) j = if j = i then some b else Memory.read? m j := by
  have swap : ∀ x : Nat, (x = j) = (j = x) := fun x => propext eq_comm
  induction m with
  | nil => simp [Memory.write, Memory.read?, swap]
  | cons c m ih =>
    obtain ⟨a, x⟩ := c
    simp only [Memory.write]
    split
    · simp [Memory.read?, swap]
    · split
      · subst_vars; by_cases h : j = a <;> simp [Memory.read?, swap, h]
      · by_cases h : j = i
        · subst h; simp [Memory.read?, ih, swap]; intro h2; omega
        · simp [Memory.read?, ih, h]

/-- A write inside the buffer, at an index above the lower bound, keeps the canonical form. -/
theorem Memory.wfFrom_write {size : Nat} {m : Memory} {lo : Option Nat} {i : Nat} {b : Byte}
    (h : Memory.wfFrom size lo m = true) (hi : i < size) (hlo : ∀ l ∈ lo, l < i) :
    Memory.wfFrom size lo (Memory.write m i b) = true := by
  induction m generalizing lo with
  | nil => cases lo <;> simp_all [Memory.write, Memory.wfFrom]
  | cons c m ih =>
    obtain ⟨a, x⟩ := c
    simp only [Memory.wfFrom, Bool.and_eq_true, decide_eq_true_eq] at h
    obtain ⟨⟨h1, h2⟩, h3⟩ := h
    have hlo' : lo.all (fun l => decide (l < i)) = true := by cases lo <;> simp_all
    simp only [Memory.write]
    split
    · simp_all [Memory.wfFrom]
    · split
      · subst_vars; simp_all [Memory.wfFrom]
      · have : Memory.wfFrom size (some a) (Memory.write m i b) = true :=
          ih h3 (by intro l hl; simp at hl; omega)
        simp_all [Memory.wfFrom]

/-- A write inside the buffer keeps the canonical form. -/
theorem Memory.wf_write {size : Nat} {m : Memory} {i : Nat} {b : Byte} (h : Memory.wf size m = true) (hi : i < size) :
    Memory.wf size (Memory.write m i b) = true :=
  Memory.wfFrom_write h hi (by simp)

/-- A run of writes inside the buffer keeps the canonical form. -/
theorem wf_writeRun {size : Nat} {f : List Byte} {m : Memory} {i : Nat} (h : Memory.wf size m = true)
    (hi : i + f.length ≤ size) : Memory.wf size (writeRun m i f) = true := by
  induction f generalizing m i with
  | nil => exact h
  | cons b f ih =>
    simp only [List.length_cons] at hi
    exact ih (Memory.wf_write h (by omega)) (by omega)

/-- A read after a run of writes gives the run's byte inside it and what stood there outside. -/
theorem read?_writeRun (f : List Byte) (m : Memory) (i j : Nat) :
    Memory.read? (writeRun m i f) j = if i ≤ j ∧ j < i + f.length then f[j - i]? else Memory.read? m j := by
  induction f generalizing m i with
  | nil => simp only [writeRun, List.length_nil]; split <;> [omega; rfl]
  | cons b f ih =>
    simp only [writeRun, ih, Memory.read?_write, List.length_cons]
    by_cases h1 : i + 1 ≤ j ∧ j < i + 1 + f.length
    · have : j - i = (j - (i + 1)) + 1 := by omega
      rw [if_pos h1, if_pos (by omega), this, List.getElem?_cons_succ]
    · rw [if_neg h1]
      by_cases h2 : j = i
      · subst h2; simp
      · rw [if_neg h2, if_neg (by omega)]

/-- The empty buffer is in canonical form. -/
theorem Memory.wf_nil (size : Nat) : Memory.wf size [] = true := rfl

end Sys2Proof.Machine
end

