-- ==== Sys2Proof/Laws/Ops.lean ====
section
/-! SUPPORT. For each shared operation one lemma that says everything it can answer. The provers cite these instead of
unfolding the operations. -/

namespace Sys2Proof.Machine

variable {s t : State}

/-! ## Requests -/

/-- A request completes on an open transport only, and then as its body says. -/
theorem whenOpen_next {r : Result} (h : whenOpen s r = .next t) : s.isOpen = true ∧ r = .next t := by
  unfold whenOpen at h; split at h
  · exact ⟨‹_›, h⟩
  · cases h

/-- On an open transport a request is its body. -/
theorem whenOpen_open (r : Result) (h : s.isOpen = true) : whenOpen s r = r := by simp [whenOpen, h]

/-- On a closed transport a request is refused (R229, log 10). -/
theorem whenOpen_closed (r : Result) (h : s.isOpen = false) : whenOpen s r = .refused .transportClosed := by
  simp [whenOpen, h]

/-- A line that sends a byte: on an open transport one byte, one event, the next label. -/
theorem send_open (b : Byte) (l : Label) (h : s.isOpen = true) :
    send b l s = .next { s with seq := l, txStream := s.txStream ++ [b], events := s.events ++ [.tx b] } :=
  whenOpen_open _ h

/-- What a line that sends a byte can do. -/
theorem send_next {b : Byte} {l : Label} (h : send b l s = .next t) :
    s.isOpen = true ∧
      t = { s with seq := l, txStream := s.txStream ++ [b], events := s.events ++ [.tx b] } := by
  obtain ⟨ho, ht⟩ := whenOpen_next h
  cases ht
  exact ⟨ho, rfl⟩

/-- The two answers of a read: a timeout from an exhausted script or an item, or a byte, which is latched. -/
theorem tread_cases (T : TimeLabel) (s : State) :
    (tread T s = (.timeout, { s with rxStream := [], rxTimeout := true, events := s.events ++ [.rxTimeout T] }) ∧
      s.rxStream = []) ∨
    (∃ r, s.rxStream = .timeout :: r ∧
      tread T s = (.timeout, { s with rxStream := r, rxTimeout := true, events := s.events ++ [.rxTimeout T] })) ∨
    (∃ b r, s.rxStream = .byte b :: r ∧
      tread T s =
        (.byte b, { s with rxStream := r, rxb := b, rxTimeout := false, events := s.events ++ [.rx b] })) := by
  unfold tread
  split
  · left; refine ⟨?_, ‹_›⟩; simp [emit, ‹s.rxStream = []›]
  · right; left; exact ⟨_, ‹_›, rfl⟩
  · right; right; exact ⟨_, _, ‹_›, rfl⟩

/-- The next answer of a script: a timeout, or the byte at its front. -/
theorem answer_cases (a : List Answer) : (∃ r, nextAnswer a = (.timeout, r)) ∨ (∃ b r, a = .byte b :: r) := by
  match a with
  | [] => exact .inl ⟨_, rfl⟩
  | .timeout :: r => exact .inl ⟨r, rfl⟩
  | .byte b :: r => exact .inr ⟨b, r, rfl⟩

/-- The answer of a read is the script's next, and the script goes on behind it. -/
theorem tread_answer (T : TimeLabel) (s : State) :
    (tread T s).1 = (nextAnswer s.rxStream).1 ∧ (tread T s).2.rxStream = (nextAnswer s.rxStream).2 := by
  rcases tread_cases T s with ⟨h, hs⟩ | ⟨r, hs, h⟩ | ⟨b, r, hs, h⟩ <;> simp [h, hs, nextAnswer]

/-- A line that reads, when the script's next answer is a byte. -/
theorem readByte_byte {T : TimeLabel} {onT : State → Result} {onB : Byte → State → Result} {b : Byte} {r : List Answer}
    (ho : s.isOpen = true) (h : s.rxStream = .byte b :: r) :
    readByte T s onT onB =
      onB b { s with rxStream := r, rxb := b, rxTimeout := false, events := s.events ++ [.rx b] } := by
  simp [readByte, whenOpen, ho, tread, h, emit]

/-- A line that reads, when the script's next answer is a timeout. -/
theorem readByte_timeout {T : TimeLabel} {onT : State → Result} {onB : Byte → State → Result} {r : List Answer}
    (ho : s.isOpen = true) (h : nextAnswer s.rxStream = (.timeout, r)) :
    readByte T s onT onB =
      onT { s with rxStream := r, rxTimeout := true, events := s.events ++ [.rxTimeout T] } := by
  rcases tread_cases T s with ⟨h', hs⟩ | ⟨r', hs, h'⟩ | ⟨b, r', hs, h'⟩
  · simp only [hs, nextAnswer, Prod.mk.injEq, true_and] at h; subst h; simp [readByte, whenOpen, ho, h']
  · simp only [hs, nextAnswer, Prod.mk.injEq, true_and] at h; subst h; simp [readByte, whenOpen, ho, h']
  · simp [hs, nextAnswer] at h

/-- What a line that reads can do. -/
theorem readByte_next {T : TimeLabel} {onT : State → Result} {onB : Byte → State → Result}
    (h : readByte T s onT onB = .next t) :
    s.isOpen = true ∧
      ((∃ r, nextAnswer s.rxStream = (.timeout, r) ∧
          onT { s with rxStream := r, rxTimeout := true, events := s.events ++ [.rxTimeout T] } = .next t) ∨
        (∃ b r, s.rxStream = .byte b :: r ∧
          onB b { s with rxStream := r, rxb := b, rxTimeout := false, events := s.events ++ [.rx b] } = .next t)) := by
  obtain ⟨ho, -⟩ := whenOpen_next h
  refine ⟨ho, ?_⟩
  cases hs : s.rxStream with
  | nil => exact .inl ⟨[], rfl, by rw [← h, readByte_timeout ho (by rw [hs]; rfl)]⟩
  | cons a r =>
    cases a with
    | timeout => exact .inl ⟨r, rfl, by rw [← h, readByte_timeout ho (by rw [hs]; rfl)]⟩
    | byte b => exact .inr ⟨b, r, rfl, by rw [← h, readByte_byte ho hs]⟩

/-- A flush discards from the front of the RX stream and records its event. -/
theorem tflush_drops (T : TimeLabel) (s : State) :
    ∃ k p, tflush T s =
      { s with rxStream := s.rxStream.drop k, flushPlan := p, events := s.events ++ [.flush T] } := by
  have drops : ∀ a : List Answer, ∃ k, dropThroughTimeout a = a.drop k := by
    intro a
    induction a with
    | nil => exact ⟨0, rfl⟩
    | cons x a ih =>
      obtain ⟨k, hk⟩ := ih
      cases x with
      | timeout => exact ⟨1, rfl⟩
      | byte b => exact ⟨k + 1, by simpa [dropThroughTimeout] using hk⟩
  unfold tflush
  split
  · rename_i hp
    obtain ⟨k, hk⟩ := drops s.rxStream
    exact ⟨k, [], by simp [emit, hk, ← hp]⟩
  · exact ⟨_, _, rfl⟩

/-! ## Buffers -/

/-- The engine's read of `TXB` inside the buffer. -/
theorem readTxb_ok {i : Nat} (h : i < txMax) : readTxb i s = .ok (s.txbByte i) := by simp [readTxb, h]

/-- `push` inside the buffer: stored, counted, absorbed. -/
theorem push_ok {v : Byte} (h : s.rxLen.toNat < rxMax) :
    push v s = .ok
      { s with rxbuf := Memory.write s.rxbuf s.rxLen.toNat v, rxLen := s.rxLen + 1, acc := s.acc ^^^ v } := by
  simp [push, h, csAbsorb]

/-- What a checked buffer access can lead to. -/
theorem orFault_next {α : Type} {x : Except Fault α} {k : α → Result} (h : orFault x k = .next t) :
    ∃ a, x = .ok a ∧ k a = .next t := by
  cases x with
  | ok a => exact ⟨a, rfl, h⟩
  | error e => cases h

/-- What `push` can do. -/
theorem push_next {v : Byte} (h : push v s = .ok t) :
    s.rxLen.toNat < rxMax ∧
      t = { s with rxbuf := Memory.write s.rxbuf s.rxLen.toNat v, rxLen := s.rxLen + 1, acc := s.acc ^^^ v } := by
  unfold push at h; split at h
  · cases h; exact ⟨‹_›, rfl⟩
  · cases h

/-- `rx_len` after a push. -/
theorem rxLen_add_one (h : s.rxLen.toNat < rxMax) : (s.rxLen + 1).toNat = s.rxLen.toNat + 1 := by
  simp only [rxMax] at h; rw [BitVec.toNat_add]; simp; omega

/-- A byte of `RXB` after a push. -/
theorem rxbByte_push (s : State) (v : Byte) (a : Nat) :
    ({ s with rxbuf := Memory.write s.rxbuf s.rxLen.toNat v } : State).rxbByte a =
      if a = s.rxLen.toNat then v else s.rxbByte a := by
  simp only [State.rxbByte, Memory.read?_write]; split <;> rfl

/-- The remaining count after one iteration. -/
theorem cnt_sub_one {c : BitVec 5} (h : 1 ≤ c.toNat) : (c - 1).toNat = c.toNat - 1 := by
  rw [BitVec.toNat_sub]; simp; omega

/-- The remaining count is 0 as a number exactly when it is 0. -/
theorem cnt_eq_zero {c : BitVec 5} : c = 0 ↔ c.toNat = 0 :=
  ⟨fun h => by rw [h]; rfl, fun h => BitVec.eq_of_toNat_eq h⟩

/-- The loop index after one iteration below a 6-bit bound. -/
theorem idx_add_one {i n : BitVec 6} (h : i.toNat < n.toNat) : (i + 1).toNat = i.toNat + 1 := by
  have := n.isLt; rw [BitVec.toNat_add]; simp; omega

/-- R88: a frame has 1 to 16 payload bytes. -/
theorem payloadCount_bounds (l : Byte) : 1 ≤ (payloadCount l).toNat ∧ (payloadCount l).toNat ≤ 16 := by
  revert l; decide

/-! ## Start, end and return -/

/-- R25: what the acceptance of a code leaves. -/
theorem startOp_eq (op : HostOp) (s : State) :
    startOp op s = onEntry op
      { s with curOp := op, busy := true, seq := firstLabel op, events := s.events ++ [.start op] } := rfl

/-- R163: a write of `link_state` with its event. -/
theorem setLink_eq (v : LinkState) (s : State) :
    setLink v s =
      { s with linkState := v, events := s.events ++ (if s.linkState = v then [] else [.state v]) } := by
  unfold setLink
  split
  · rename_i h; cases s; simp_all
  · rfl

/-- The end of `RESET`, `SETADDR` and `CHKSTATE` that the host started. -/
theorem endReset_host {ok : Bool} {c : ResCode} (h : s.curOp ≠ .init) : endReset ok c s = finish ok c s := by
  simp [endReset, h]

theorem endSetaddr_host {ok : Bool} {c : ResCode} (h : s.curOp ≠ .init) : endSetaddr ok c s = finish ok c s := by
  simp [endSetaddr, h]

theorem endChkstate_host {ok : Bool} {c : ResCode} (h : s.curOp ≠ .init) (h' : s.curOp ≠ .read) :
    endChkstate ok c s = finish ok c s := by
  simp [endChkstate, h, h']

/-- The three ends of a `CHKSTATE`. -/
theorem endChkstate_cases (ok : Bool) (c : ResCode) (s : State) :
    (s.curOp = .init ∧ endChkstate ok c s = returnSub ok c .iniEnd s) ∨
    (s.curOp = .read ∧ endChkstate ok c s = goto .rdEnd s) ∨
    (s.curOp ≠ .init ∧ s.curOp ≠ .read ∧ endChkstate ok c s = finish ok c s) := by
  unfold endChkstate
  split
  · exact .inl ⟨‹_›, rfl⟩
  · split
    · exact .inr (.inl ⟨‹_›, rfl⟩)
    · exact .inr (.inr ⟨‹_›, ‹_›, rfl⟩)

/-- The three ends of a `RESET`. -/
theorem endReset_cases (ok : Bool) (c : ResCode) (s : State) :
    (s.curOp = .init ∧ c = .cancelled ∧ endReset ok c s = finish false .cancelled (returnSub ok c .iniRst s)) ∨
    (s.curOp = .init ∧ c ≠ .cancelled ∧ endReset ok c s = returnSub ok c .iniSia s) ∨
    (s.curOp ≠ .init ∧ endReset ok c s = finish ok c s) := by
  unfold endReset
  split
  · split
    · exact .inl ⟨‹_›, ‹_›, rfl⟩
    · exact .inr (.inl ⟨‹_›, ‹_›, rfl⟩)
  · exact .inr (.inr ⟨‹_›, rfl⟩)

/-- The three ends of a `SETADDR`. -/
theorem endSetaddr_cases (ok : Bool) (c : ResCode) (s : State) :
    (s.curOp = .init ∧ c = .cancelled ∧ endSetaddr ok c s = finish false .cancelled (returnSub ok c .iniSia s)) ∨
    (s.curOp = .init ∧ c ≠ .cancelled ∧ endSetaddr ok c s = returnSub ok c .iniChk s) ∨
    (s.curOp ≠ .init ∧ endSetaddr ok c s = finish ok c s) := by
  unfold endSetaddr
  split
  · split
    · exact .inl ⟨‹_›, ‹_›, rfl⟩
    · exact .inr (.inl ⟨‹_›, ‹_›, rfl⟩)
  · exact .inr (.inr ⟨‹_›, rfl⟩)

end Sys2Proof.Machine
end

