-- ==== Sys2Proof/Laws/Step.lean ====
section
/-! SUPPORT. The step by label: what the engine's micro-step is at each label, and what a step is for each pending move. -/

namespace Sys2Proof.Machine

variable {s t : State}

/-- The labelled line at each label (R23). -/
def microLine (s : State) : Result :=
  match s.seq with
  | .idle => .next s
  | .csuInit => lineCsuInit s
  | .csuLoop => lineCsuLoop s
  | .csuEnd => lineCsuEnd s
  | .verInit => lineVerInit s
  | .verLoop => lineVerLoop s
  | .verEnd => lineVerEnd s
  | .chkTx => lineChkTx s
  | .chkRx => lineChkRx s
  | .chkEnd => lineChkEnd s
  | .rstTop => lineRstTop s
  | .rstTx => lineRstTx s
  | .rstRx => lineRstRx s
  | .rstCmp => lineRstCmp s
  | .siaTop => lineSiaTop s
  | .sia1a => lineSia1a s
  | .sia1b => lineSia1b s
  | .sia2a => lineSia2a s
  | .sia2b => lineSia2b s
  | .sia2bSecond => lineSia2bSecond s
  | .sia2c => lineSia2c s
  | .sia3a => lineSia3a s
  | .sia3b => lineSia3b s
  | .sia4a => lineSia4a s
  | .sia4b => lineSia4b s
  | .sia5a => lineSia5a s
  | .sia5b => lineSia5b s
  | .sia5c => lineSia5c s
  | .sia6a => lineSia6a s
  | .sia6b => lineSia6b s
  | .sia6bSecond => lineSia6bSecond s
  | .sia6c => lineSia6c s
  | .siaFail => lineSiaFail s
  | .iniOpen => lineIniOpen s
  | .iniCfg => lineIniCfg s
  | .iniTop => lineIniTop s
  | .iniRst => lineIniRst s
  | .iniSia => lineIniSia s
  | .iniChk => lineIniChk s
  | .iniEnd => lineIniEnd s
  | .rdDec => lineRdDec s
  | .rdSw => lineRdSw s
  | .rdLost => lineRdLost s
  | .rdEnd => lineRdEnd s
  | .decCtrl => lineDecCtrl s
  | .decCls => lineDecCls s
  | .decAddr => lineDecAddr s
  | .decLen => lineDecLen s
  | .decPay => lineDecPay s
  | .decChk => lineDecChk s
  | .decVfy => lineDecVfy s
  | .wrChk => lineWrChk s
  | .wrPfx => lineWrPfx s
  | .wrDat => lineWrDat s
  | .wrEnd => lineWrEnd s
  | .wrCs => lineWrCs s

/-- The bits of a pair: the low byte's, then the high byte's. -/
theorem pairOf_getLsbD (h l : Byte) (i : Nat) :
    (pairOf h l).getLsbD i = if i < 8 then l.getLsbD i else h.getLsbD (i - 8) := by
  have := BitVec.getLsbD_append (x := h) (y := l) (i := i)
  rw [show pairOf h l = h ++ l from rfl]
  rw [show (h ++ l : BitVec 16).getLsbD i = (h ++ l).getLsbD i from rfl, this]

/-- A pair is its two bytes. -/
theorem pairOf_bytes (p : Pair) : pairOf (hiByte p) (loByte p) = p := by
  apply BitVec.eq_of_getLsbD_eq
  intro i hi
  rw [pairOf_getLsbD]
  simp only [hiByte, loByte, BitVec.getLsbD_extractLsb']
  by_cases h : i < 8
  · simp [h]
  · rw [if_neg h, show 8 + (i - 8) = i by omega]; simp; omega

/-- The high byte of a pair. -/
theorem hiByte_pairOf (h l : Byte) : hiByte (pairOf h l) = h := by
  apply BitVec.eq_of_getLsbD_eq
  intro i hi
  simp [hiByte, pairOf_getLsbD, hi]

/-- The low byte of a pair. -/
theorem loByte_pairOf (h l : Byte) : loByte (pairOf h l) = l := by
  apply BitVec.eq_of_getLsbD_eq
  intro i hi
  simp [loByte, pairOf_getLsbD, hi]

/-- The instruction that the engine fetches does what the line at the label does. -/
theorem exec_fetchMicro (h : s.busy = true) : exec (fetchMicro s) s = microLine s := by
  unfold fetchMicro microLine
  cases hl : s.seq
  case chkEnd =>
    simp only [responseOr, decodeAt]
    by_cases ht : s.rxTimeout = true
    · simp [ht, exec, execChkstate, h, hl]
    · by_cases hb : s.rxb = stateReady
      · simp [ht, hb, exec, execRxStateReady, atLabel, hl, lineChkEnd, readyReceived]
      · simp [ht, hb, exec, execChkstate, h, hl]
  case rstCmp =>
    simp only [responseOr, decodeAt]
    by_cases ht : s.rxTimeout = true
    · simp [ht, exec, execReset, h, hl]
    · by_cases hb : s.rxb = resetAck
      · simp [ht, hb, exec, execRxResetAck, atLabel, hl, lineRstCmp, ackReceived]
      · simp [ht, hb, exec, execReset, h, hl]
  case sia2c =>
    simp only [echoOr, decodeAt]
    by_cases ht : s.rxTimeout = true
    · simp [ht, exec, execSetaddr, h, hl]
    · simp [ht, exec, execRxSiaEcho1, atLabel, hl, lineSia2c, echoReceived, pairOf_bytes]
  case sia6c =>
    simp only [echoOr, decodeAt]
    by_cases ht : s.rxTimeout = true
    · simp [ht, exec, execSetaddr, h, hl]
    · by_cases he : s.echo = s.siaEcho2 <;>
        simp [ht, exec, execRxSiaEcho2, atLabel, hl, lineSia6c, echoReceived, pairOf_bytes, he]
  case decCls =>
    simp only [decodeFirstByte, lineDecCls]
    cases hc : classify s.rxb
    case ctrl =>
      have hb : isCtrl s.rxb = true := by
        unfold classify at hc; repeat' split at hc
        all_goals first | assumption | cases hc
      simp [exec, execRxCtrl, atLabel, hl, hb]
    all_goals simp [exec, execRxLinklost, execRxConfNeg, execRxConfPos, execRxOther, atLabel, hl, hc]
  case wrDat =>
    by_cases hi : s.idx.toNat < txMax
    · simp [hi, exec, execTxData, hl, lineWrDat, readTxb_ok, orFault]
    · simp [hi, exec, execEncode, hl]
  all_goals
    simp [exec, execNop, execCsum, execVerify, execChkstate, execReset, execSetaddr, execInit, execRead, execWrite,
      execDecode, execTxStateReq, execTxResetReq, execTxWriteProp, execTxReadProp, execTxAddrHi, execTxAddrLo,
      execTxValue, execTxPrefix, execTxEnd, execTxChecksum, h, hl, lineChkTx, lineRstTx, lineSia1a, lineSia1b, lineSia2a,
      lineSia3a, lineSia3b, lineSia4a, lineSia4b, lineSia5a, lineSia5b, lineSia6a, lineWrPfx, lineWrEnd, lineWrCs]

/-- What a turn answers. -/
def Turn.result : Turn → Result
  | .run i s => exec i s
  | .settled s => .next s

/-- A step is the result of its turn. -/
theorem step_eq (s : State) : step s = (turn s).result := by
  unfold step; cases turn s <;> rfl

/-- The result of the engine's turn. -/
theorem engineTurn_busy (h : s.busy = true) : (engineTurn s).result = microLine s := by
  rw [engineTurn, if_pos h]; exact exec_fetchMicro h

theorem engineTurn_idle (h : s.busy = false) : (engineTurn s).result = .next s := by
  simp [engineTurn, h, Turn.result]

/-- The engine's turn while an operation runs is the line at the label. -/
theorem step_engine (hm : s.moves = []) (h : s.busy = true) : step s = microLine s := by
  rw [step_eq, turn, hm]; exact engineTurn_busy h

/-- The engine's turn while the block is idle changes nothing (R210, log 17). -/
theorem step_idle (hm : s.moves = []) (h : s.busy = false) : step s = .next s := by
  rw [step_eq, turn, hm]; exact engineTurn_idle h

/-- What a step is, by whose move is next (log 2): the engine's micro-step on the state without the move that let it, or
the host's move on the state without that move. -/
theorem step_cases (s : State) :
    (engineNext s.moves = true ∧ s.busy = true ∧
      ∃ m, (m = s.moves ∨ ∃ x, s.moves = x :: m) ∧ step s = microLine { s with moves := m }) ∨
    (engineNext s.moves = true ∧ s.busy = false ∧
      ∃ m, (m = s.moves ∨ ∃ x, s.moves = x :: m) ∧ step s = .next { s with moves := m }) ∨
    (engineNext s.moves = false ∧ ∃ x m, s.moves = x :: m ∧
      step s = (hostTurn x { s with moves := m }).result) := by
  have hself : ∀ m, s.moves = m → ({ s with moves := m } : State) = s := by rintro m rfl; rfl
  rw [step_eq]
  by_cases hb : s.busy = true
  · cases hm : s.moves with
    | nil =>
      refine .inl ⟨rfl, hb, [], .inl rfl, ?_⟩
      rw [hself _ hm, turn, hm]; exact engineTurn_busy hb
    | cons x m =>
      cases x
      case waitIdle =>
        refine .inl ⟨rfl, hb, _, .inl rfl, ?_⟩
        rw [hself _ hm, turn, hm]; simp only [hb, if_true]; exact engineTurn_busy hb
      case letEngine =>
        refine .inl ⟨rfl, hb, m, .inr ⟨_, rfl⟩, ?_⟩
        rw [turn, hm]; exact engineTurn_busy (s := { s with moves := m }) hb
      all_goals exact .inr (.inr ⟨rfl, _, m, rfl, by rw [turn, hm]⟩)
  · simp only [Bool.not_eq_true] at hb
    cases hm : s.moves with
    | nil =>
      refine .inr (.inl ⟨rfl, hb, [], .inl rfl, ?_⟩)
      rw [hself _ hm, turn, hm]; exact engineTurn_idle hb
    | cons x m =>
      cases x
      case waitIdle =>
        refine .inr (.inl ⟨rfl, hb, m, .inr ⟨_, rfl⟩, ?_⟩)
        rw [turn, hm]; simp only [hb]; rfl
      case letEngine =>
        refine .inr (.inl ⟨rfl, hb, m, .inr ⟨_, rfl⟩, ?_⟩)
        rw [turn, hm]; exact engineTurn_idle (s := { s with moves := m }) hb
      all_goals exact .inr (.inr ⟨rfl, _, m, rfl, by rw [turn, hm]⟩)

end Sys2Proof.Machine
end

