-- ==== Sys2Proof/Laws/Micro.lean ====
section
/-! SUPPORT. Everything the engine's micro-step can do, once: one constructor for each way a labelled line goes (R23), with
what it tests and the whole state it leaves. A statement about every step is a case analysis over `Micro`. -/

namespace Sys2Proof.Machine

variable {s t : State}

/-- The micro-steps of the engine. -/
inductive Micro (s : State) : State → Prop where
  | idle (h : s.seq = .idle) : Micro s s
  | csuInit (h : s.seq = .csuInit) :
    Micro s { s with seq := .csuLoop, acc := csSeed, idx := 0 }
  | csuMore (h : s.seq = .csuLoop) (hi : s.idx.toNat < s.txLen.toNat) :
    Micro s { s with seq := .csuLoop, acc := s.acc ^^^ s.txbByte s.idx.toNat, idx := s.idx + 1 }
  | csuDone (h : s.seq = .csuLoop) (hi : s.txLen.toNat ≤ s.idx.toNat) :
    Micro s { s with seq := .csuEnd }
  | csuEnd (h : s.seq = .csuEnd) :
    Micro s (finish true .none s)
  | verInit (h : s.seq = .verInit) :
    Micro s { s with seq := .verLoop, acc := csSeed, idx := 0 }
  | verMore (h : s.seq = .verLoop) (hi : s.idx.toNat < s.txLen.toNat) :
    Micro s { s with seq := .verLoop, acc := s.acc ^^^ s.txbByte s.idx.toNat, idx := s.idx + 1 }
  | verDone (h : s.seq = .verLoop) (hi : s.txLen.toNat ≤ s.idx.toNat) :
    Micro s { s with seq := .verEnd }
  | verEnd (h : s.seq = .verEnd) :
    Micro s (finish (checksumOk s.chkIn s) .none s)
  | rstTx (h : s.seq = .rstTx) (ho : s.isOpen = true) :
    Micro s { s with seq := .rstRx, txStream := s.txStream ++ [resetRequest], events := s.events ++ [.tx resetRequest] }
  | sia1a (h : s.seq = .sia1a) (ho : s.isOpen = true) :
    Micro s { s with
        seq := .sia1b, txStream := s.txStream ++ [writeProperty], events := s.events ++ [.tx writeProperty] }
  | sia1b (h : s.seq = .sia1b) (ho : s.isOpen = true) :
    Micro s { s with seq := .sia2a, txStream := s.txStream ++ [disableValue], events := s.events ++ [.tx disableValue] }
  | sia2a (h : s.seq = .sia2a) (ho : s.isOpen = true) :
    Micro s { s with seq := .sia2b, txStream := s.txStream ++ [readProperty], events := s.events ++ [.tx readProperty] }
  | sia3a (h : s.seq = .sia3a) (ho : s.isOpen = true) :
    Micro s { s with seq := .sia3b, txStream := s.txStream ++ [writeAddrHi], events := s.events ++ [.tx writeAddrHi] }
  | sia3b (h : s.seq = .sia3b) (ho : s.isOpen = true) :
    Micro s { s with seq := .sia4a, txStream := s.txStream ++ [s.iaHi], events := s.events ++ [.tx s.iaHi] }
  | sia4a (h : s.seq = .sia4a) (ho : s.isOpen = true) :
    Micro s { s with seq := .sia4b, txStream := s.txStream ++ [writeAddrLo], events := s.events ++ [.tx writeAddrLo] }
  | sia4b (h : s.seq = .sia4b) (ho : s.isOpen = true) :
    Micro s { s with seq := .sia5a, txStream := s.txStream ++ [s.iaLo], events := s.events ++ [.tx s.iaLo] }
  | sia5a (h : s.seq = .sia5a) (ho : s.isOpen = true) :
    Micro s { s with
        seq := .sia5b, txStream := s.txStream ++ [writeProperty], events := s.events ++ [.tx writeProperty] }
  | sia5b (h : s.seq = .sia5b) (ho : s.isOpen = true) :
    Micro s { s with seq := .sia5c, txStream := s.txStream ++ [enableValue], events := s.events ++ [.tx enableValue] }
  | sia6a (h : s.seq = .sia6a) (ho : s.isOpen = true) :
    Micro s { s with seq := .sia6b, txStream := s.txStream ++ [readProperty], events := s.events ++ [.tx readProperty] }
  | chkTx (h : s.seq = .chkTx) (ho : s.isOpen = true) :
    Micro s { s with
        seq := .chkRx, linkState := .stateChecking, txStream := s.txStream ++ [stateRequest],
        events := s.events ++ linkEvent s.linkState .stateChecking ++ [.tx stateRequest] }
  | chkRxTimeout (r : List Answer) (h : s.seq = .chkRx)
    (ho : s.isOpen = true) (hr : nextAnswer s.rxStream = (.timeout, r)) :
    Micro s { s with seq := .chkEnd, rxStream := r, rxTimeout := true, events := s.events ++ [.rxTimeout .tShort] }
  | chkRxByte (b : Byte) (r : List Answer) (h : s.seq = .chkRx)
    (ho : s.isOpen = true) (hr : s.rxStream = .byte b :: r) :
    Micro s { s with seq := .chkEnd, rxStream := r, rxb := b, rxTimeout := false, events := s.events ++ [.rx b] }
  | rstRxTimeout (r : List Answer) (h : s.seq = .rstRx)
    (ho : s.isOpen = true) (hr : nextAnswer s.rxStream = (.timeout, r)) :
    Micro s { s with seq := .rstCmp, rxStream := r, rxTimeout := true, events := s.events ++ [.rxTimeout .tReset] }
  | rstRxByte (b : Byte) (r : List Answer) (h : s.seq = .rstRx)
    (ho : s.isOpen = true) (hr : s.rxStream = .byte b :: r) :
    Micro s { s with seq := .rstCmp, rxStream := r, rxb := b, rxTimeout := false, events := s.events ++ [.rx b] }
  | sia2bTimeout (r : List Answer) (h : s.seq = .sia2b)
    (ho : s.isOpen = true) (hr : nextAnswer s.rxStream = (.timeout, r)) :
    Micro s { s with seq := .sia2c, rxStream := r, rxTimeout := true, events := s.events ++ [.rxTimeout .tShort] }
  | sia2bByte (b : Byte) (r : List Answer) (h : s.seq = .sia2b)
    (ho : s.isOpen = true) (hr : s.rxStream = .byte b :: r) :
    Micro s { s with
        seq := .sia2bSecond, rxStream := r, rxb := b, rxTimeout := false, echo := pairOf b (loByte s.echo),
        events := s.events ++ [.rx b] }
  | sia2bSecondTimeout (r : List Answer) (h : s.seq = .sia2bSecond)
    (ho : s.isOpen = true) (hr : nextAnswer s.rxStream = (.timeout, r)) :
    Micro s { s with seq := .sia2c, rxStream := r, rxTimeout := true, events := s.events ++ [.rxTimeout .tShort] }
  | sia2bSecondByte (b : Byte) (r : List Answer) (h : s.seq = .sia2bSecond)
    (ho : s.isOpen = true) (hr : s.rxStream = .byte b :: r) :
    Micro s { s with
        seq := .sia2c, rxStream := r, rxb := b, rxTimeout := false, echo := pairOf (hiByte s.echo) b,
        events := s.events ++ [.rx b] }
  | sia6bTimeout (r : List Answer) (h : s.seq = .sia6b)
    (ho : s.isOpen = true) (hr : nextAnswer s.rxStream = (.timeout, r)) :
    Micro s { s with seq := .sia6c, rxStream := r, rxTimeout := true, events := s.events ++ [.rxTimeout .tShort] }
  | sia6bByte (b : Byte) (r : List Answer) (h : s.seq = .sia6b)
    (ho : s.isOpen = true) (hr : s.rxStream = .byte b :: r) :
    Micro s { s with
        seq := .sia6bSecond, rxStream := r, rxb := b, rxTimeout := false, echo := pairOf b (loByte s.echo),
        events := s.events ++ [.rx b] }
  | sia6bSecondTimeout (r : List Answer) (h : s.seq = .sia6bSecond)
    (ho : s.isOpen = true) (hr : nextAnswer s.rxStream = (.timeout, r)) :
    Micro s { s with seq := .sia6c, rxStream := r, rxTimeout := true, events := s.events ++ [.rxTimeout .tShort] }
  | sia6bSecondByte (b : Byte) (r : List Answer) (h : s.seq = .sia6bSecond)
    (ho : s.isOpen = true) (hr : s.rxStream = .byte b :: r) :
    Micro s { s with
        seq := .sia6c, rxStream := r, rxb := b, rxTimeout := false, echo := pairOf (hiByte s.echo) b,
        events := s.events ++ [.rx b] }
  | chkEndReady (h : s.seq = .chkEnd) (hr : readyReceived s = true) :
    Micro s (endChkstate true .none (setLink .ready s))
  | chkEndTimeout (h : s.seq = .chkEnd) (ht : s.rxTimeout = true) :
    Micro s (endChkstate false .timeout s)
  | chkEndWrong (h : s.seq = .chkEnd) (hr : readyReceived s = false) (ht : s.rxTimeout = false) :
    Micro s (endChkstate false .none s)
  | rstTopCancel (h : s.seq = .rstTop) (hc : s.cancel = true) :
    Micro s (endReset false .cancelled s)
  | rstTopGo (h : s.seq = .rstTop) (hc : s.cancel = false) :
    Micro s { s with seq := .rstTx }
  | rstCmpAck (h : s.seq = .rstCmp) (hr : ackReceived s = true) :
    Micro s (endReset true .none (setLink .addressAssigning s))
  | rstCmpRetry (h : s.seq = .rstCmp) (hr : ackReceived s = false) :
    Micro s { s with seq := .rstTop, events := s.events ++ [.retry .reset] }
  | siaTopCancel (h : s.seq = .siaTop) (hc : s.cancel = true) :
    Micro s (endSetaddr false .cancelled s)
  | siaTopGo (h : s.seq = .siaTop) (hc : s.cancel = false) :
    Micro s { s with seq := .sia1a }
  | sia2cMatch (h : s.seq = .sia2c) (he : echoReceived s.siaEcho1 s = true) :
    Micro s { s with seq := .sia3a }
  | sia2cFail (h : s.seq = .sia2c) (he : echoReceived s.siaEcho1 s = false) :
    Micro s { s with seq := .siaFail }
  | sia5c (h : s.seq = .sia5c) :
    Micro s { s with seq := .sia6a, events := s.events ++ [.delay .tSettle] }
  | sia6cMatch (h : s.seq = .sia6c) (he : echoReceived s.siaEcho2 s = true) :
    Micro s (endSetaddr true .none (setLink .stateChecking s))
  | sia6cFail (h : s.seq = .sia6c) (he : echoReceived s.siaEcho2 s = false) :
    Micro s { s with seq := .siaFail }
  | siaFail (k : Nat) (p : List Nat) (h : s.seq = .siaFail) (ho : s.isOpen = true)
    (hf : tflush .tFlush s = { s with rxStream := s.rxStream.drop k, flushPlan := p, events := s.events ++ [.flush .tFlush] }) :
    Micro s { s with
        seq := .siaTop, rxStream := s.rxStream.drop k, flushPlan := p, events := s.events ++ [.flush .tFlush,
        .retry .setaddr] }
  | iniOpenYes (h : s.seq = .iniOpen) (ho : s.isOpen = true) :
    Micro s { s with seq := .iniCfg, events := s.events ++ [.isOpen true] }
  | iniOpenNo (h : s.seq = .iniOpen) (ho : s.isOpen = false) :
    Micro s (finish false .transportNotOpen { s with events := s.events ++ [.isOpen false] })
  | iniCfg (h : s.seq = .iniCfg) (ho : s.isOpen = true) :
    Micro s { s with seq := .iniTop, line := some fixedLine, events := s.events ++ [.configure] }
  | iniTopCancel (h : s.seq = .iniTop) (hc : s.cancel = true) :
    Micro s (finish false .cancelled s)
  | iniTopGo (h : s.seq = .iniTop) (hc : s.cancel = false) :
    Micro s { s with seq := .iniRst }
  | iniRst (h : s.seq = .iniRst) :
    Micro s { s with seq := .rstTop, linkState := .resetting, events := s.events ++ linkEvent s.linkState .resetting }
  | iniSia (h : s.seq = .iniSia) :
    Micro s { s with
        seq := .siaTop, linkState := .addressAssigning,
        events := s.events ++ linkEvent s.linkState .addressAssigning }
  | iniChk (h : s.seq = .iniChk) :
    Micro s { s with seq := .chkTx }
  | iniEndOk (h : s.seq = .iniEnd) (hr : s.retOk = true) :
    Micro s (finish true .none s)
  | iniEndRetry (h : s.seq = .iniEnd) (hr : s.retOk = false) :
    Micro s { s with seq := .iniTop, events := s.events ++ [.retry .init] }
  | rdDec (h : s.seq = .rdDec) :
    Micro s { s with seq := .decCtrl }
  | rdSwLost (h : s.seq = .rdSw) (hc : s.retCode = .linkLost) :
    Micro s { s with seq := .rdLost }
  | rdSwEnd (h : s.seq = .rdSw) (hc : s.retCode ≠ .linkLost) :
    Micro s { s with seq := .rdEnd }
  | rdLost (h : s.seq = .rdLost) :
    Micro s { s with seq := .chkTx }
  | rdEnd (h : s.seq = .rdEnd) :
    Micro s (finish s.retOk s.retCode s)
  | decCtrlTimeout (r : List Answer) (h : s.seq = .decCtrl)
    (ho : s.isOpen = true) (hr : nextAnswer s.rxStream = (.timeout, r)) :
    Micro s { s with
        seq := .rdSw, acc := csSeed, rxStream := r, rxTimeout := true, rxLen := 0, rxbuf := [],
        rxbEpoch := s.rxbEpoch + 1, retOk := false, retCode := .timeout, events := s.events ++ [.rxTimeout .tShort] }
  | decCtrlByte (b : Byte) (r : List Answer) (h : s.seq = .decCtrl)
    (ho : s.isOpen = true) (hr : s.rxStream = .byte b :: r) :
    Micro s { s with
        seq := .decCls, acc := csSeed, rxLen := 0, rxStream := r, rxb := b, rxTimeout := false,
        events := s.events ++ [.rx b] }
  | decClsLost (h : s.seq = .decCls) (hc : classify s.rxb = .linkLost) :
    Micro s (decodeFail .linkLost s)
  | decClsNeg (h : s.seq = .decCls) (hc : classify s.rxb = .confNeg) :
    Micro s (decodeFail .confirmationOnly { s with confPol := false })
  | decClsPos (h : s.seq = .decCls) (hc : classify s.rxb = .confPos) :
    Micro s (decodeFail .confirmationOnly { s with confPol := true })
  | decClsOther (h : s.seq = .decCls) (hc : classify s.rxb = .other) :
    Micro s (decodeFail .malformedControl s)
  | decClsCtrl (b : Byte) (h : s.seq = .decCls) (hb : b = s.rxb) (hc : classify b = .ctrl) (hl : s.rxLen.toNat < rxMax) :
    Micro s { s with
        seq := .decAddr, cnt := 4, rxbuf := Memory.write s.rxbuf s.rxLen.toNat b, rxLen := s.rxLen + 1,
        acc := s.acc ^^^ b }
  | decAddrTimeout (r : List Answer) (h : s.seq = .decAddr)
    (ho : s.isOpen = true) (hr : nextAnswer s.rxStream = (.timeout, r)) :
    Micro s { s with
        seq := .rdSw, rxStream := r, rxTimeout := true, rxLen := 0, rxbuf := [], rxbEpoch := s.rxbEpoch + 1,
        retOk := false, retCode := .timeout, events := s.events ++ [.rxTimeout .tShort] }
  | decAddrMore (b : Byte) (r : List Answer) (h : s.seq = .decAddr) (ho : s.isOpen = true) (hr : s.rxStream = .byte b :: r) (hl : s.rxLen.toNat < rxMax)
    (hc : s.cnt - 1 ≠ 0) :
    Micro s { s with
        seq := .decAddr, cnt := s.cnt - 1, rxbuf := Memory.write s.rxbuf s.rxLen.toNat b, rxLen := s.rxLen + 1,
        acc := s.acc ^^^ b, rxStream := r, rxb := b, rxTimeout := false, events := s.events ++ [.rx b] }
  | decAddrLast (b : Byte) (r : List Answer) (h : s.seq = .decAddr) (ho : s.isOpen = true) (hr : s.rxStream = .byte b :: r) (hl : s.rxLen.toNat < rxMax)
    (hc : s.cnt - 1 = 0) :
    Micro s { s with
        seq := .decLen, cnt := s.cnt - 1, rxbuf := Memory.write s.rxbuf s.rxLen.toNat b, rxLen := s.rxLen + 1,
        acc := s.acc ^^^ b, rxStream := r, rxb := b, rxTimeout := false, events := s.events ++ [.rx b] }
  | decLenTimeout (r : List Answer) (h : s.seq = .decLen)
    (ho : s.isOpen = true) (hr : nextAnswer s.rxStream = (.timeout, r)) :
    Micro s { s with
        seq := .rdSw, rxStream := r, rxTimeout := true, rxLen := 0, rxbuf := [], rxbEpoch := s.rxbEpoch + 1,
        retOk := false, retCode := .timeout, events := s.events ++ [.rxTimeout .tShort] }
  | decLenByte (b : Byte) (r : List Answer) (h : s.seq = .decLen)
    (ho : s.isOpen = true) (hr : s.rxStream = .byte b :: r) (hl : s.rxLen.toNat < rxMax) :
    Micro s { s with
        seq := .decPay, cnt := payloadCount b, rxbuf := Memory.write s.rxbuf s.rxLen.toNat b, rxLen := s.rxLen + 1,
        acc := s.acc ^^^ b, rxStream := r, rxb := b, rxTimeout := false, events := s.events ++ [.rx b] }
  | decPayTimeout (r : List Answer) (h : s.seq = .decPay)
    (ho : s.isOpen = true) (hr : nextAnswer s.rxStream = (.timeout, r)) :
    Micro s { s with
        seq := .rdSw, rxStream := r, rxTimeout := true, rxLen := 0, rxbuf := [], rxbEpoch := s.rxbEpoch + 1,
        retOk := false, retCode := .timeout, events := s.events ++ [.rxTimeout .tShort] }
  | decPayMore (b : Byte) (r : List Answer) (h : s.seq = .decPay) (ho : s.isOpen = true) (hr : s.rxStream = .byte b :: r) (hl : s.rxLen.toNat < rxMax)
    (hc : s.cnt - 1 ≠ 0) :
    Micro s { s with
        seq := .decPay, cnt := s.cnt - 1, rxbuf := Memory.write s.rxbuf s.rxLen.toNat b, rxLen := s.rxLen + 1,
        acc := s.acc ^^^ b, rxStream := r, rxb := b, rxTimeout := false, events := s.events ++ [.rx b] }
  | decPayLast (b : Byte) (r : List Answer) (h : s.seq = .decPay) (ho : s.isOpen = true) (hr : s.rxStream = .byte b :: r) (hl : s.rxLen.toNat < rxMax)
    (hc : s.cnt - 1 = 0) :
    Micro s { s with
        seq := .decChk, cnt := s.cnt - 1, rxbuf := Memory.write s.rxbuf s.rxLen.toNat b, rxLen := s.rxLen + 1,
        acc := s.acc ^^^ b, rxStream := r, rxb := b, rxTimeout := false, events := s.events ++ [.rx b] }
  | decChkTimeout (r : List Answer) (h : s.seq = .decChk)
    (ho : s.isOpen = true) (hr : nextAnswer s.rxStream = (.timeout, r)) :
    Micro s { s with
        seq := .rdSw, rxStream := r, rxTimeout := true, rxLen := 0, rxbuf := [], rxbEpoch := s.rxbEpoch + 1,
        retOk := false, retCode := .timeout, events := s.events ++ [.rxTimeout .tShort] }
  | decChkByte (b : Byte) (r : List Answer) (h : s.seq = .decChk)
    (ho : s.isOpen = true) (hr : s.rxStream = .byte b :: r) :
    Micro s { s with seq := .decVfy, rxStream := r, rxb := b, rxTimeout := false, events := s.events ++ [.rx b] }
  | decVfyOk (h : s.seq = .decVfy) (hc : checksumOk s.rxb s = true) :
    Micro s { s with seq := .rdSw, retOk := true, retCode := .none }
  | decVfyBad (h : s.seq = .decVfy) (hc : checksumOk s.rxb s = false) :
    Micro s (decodeFail .checksumMismatch s)
  | wrChkShort (h : s.seq = .wrChk) (hn : s.txLen.toNat < txMin) :
    Micro s (finish false .frameTooShort s)
  | wrChkGo (h : s.seq = .wrChk) (hn : txMin ≤ s.txLen.toNat) :
    Micro s { s with seq := .wrPfx, acc := csSeed, idx := 0 }
  | wrPfx (h : s.seq = .wrPfx) (ho : s.isOpen = true) (hi : s.idx.toNat < txMax) :
    Micro s { s with
        seq := .wrDat, txStream := s.txStream ++ [prefixByte s.idx], events := s.events ++ [.tx (prefixByte s.idx)] }
  | wrDatMore (h : s.seq = .wrDat) (ho : s.isOpen = true) (hi : s.idx.toNat < txMax)
    (hn : (s.idx + 1).toNat < s.txLen.toNat) :
    Micro s { s with
        seq := .wrPfx, idx := s.idx + 1, acc := s.acc ^^^ s.txbByte s.idx.toNat,
        txStream := s.txStream ++ [s.txbByte s.idx.toNat], events := s.events ++ [.tx (s.txbByte s.idx.toNat)] }
  | wrDatLast (h : s.seq = .wrDat) (ho : s.isOpen = true) (hi : s.idx.toNat < txMax)
    (hn : s.txLen.toNat ≤ (s.idx + 1).toNat) :
    Micro s { s with
        seq := .wrEnd, idx := s.idx + 1, acc := s.acc ^^^ s.txbByte s.idx.toNat,
        txStream := s.txStream ++ [s.txbByte s.idx.toNat], events := s.events ++ [.tx (s.txbByte s.idx.toNat)] }
  | wrEnd (h : s.seq = .wrEnd) (ho : s.isOpen = true) (hn : txMin ≤ s.txLen.toNat) :
    Micro s { s with
        seq := .wrCs, txStream := s.txStream ++ [endByte s.txLen], events := s.events ++ [.tx (endByte s.txLen)] }
  | wrCs (h : s.seq = .wrCs) (ho : s.isOpen = true) :
    Micro s (finish true .none { s with txStream := s.txStream ++ [s.acc], events := s.events ++ [.tx s.acc] })

/-- A 6-bit index is at most 62 exactly when it is inside `TXB`. -/
theorem prefixIndexOk_iff (i : BitVec 6) : prefixIndexOk i = true ↔ i.toNat < txMax := by
  simp [prefixIndexOk, txMax]; omega

/-- The flush request as a drop from the front. -/
theorem flush_eq (s : State) :
    ∃ k p, tflush .tFlush s = { s with rxStream := s.rxStream.drop k, flushPlan := p, events := s.events ++ [.flush .tFlush] } :=
  tflush_drops .tFlush s

/-- R163: a write of `link_state`, as a whole state. -/
theorem setLink_record (v : LinkState) (s : State) :
    setLink v s = { s with linkState := v, events := s.events ++ linkEvent s.linkState v } := setLink_eq v s

/-- Everything that the line at the label can answer with a next state. -/
theorem micro_of_next (h : microLine s = .next t) : Micro s t := by
  unfold microLine at h
  cases hl : s.seq <;> simp only [hl] at h
  case idle => cases h; exact .idle hl
  case csuInit => cases h; exact .csuInit hl
  case verInit => cases h; exact .verInit hl
  case csuLoop =>
    by_cases hi : s.idx.toNat < s.txLen.toNat
    · simp only [lineCsuLoop, foldLoop, moreToSend, hi, decide_true, if_true] at h
      rw [readTxb_ok (by have := s.txLen.isLt; simp only [txMax]; omega)] at h
      cases h; exact (Micro.csuMore hl hi)
    · simp only [lineCsuLoop, foldLoop, moreToSend, hi] at h
      cases h; exact .csuDone hl (by omega)
  case verLoop =>
    by_cases hi : s.idx.toNat < s.txLen.toNat
    · simp only [lineVerLoop, foldLoop, moreToSend, hi, decide_true, if_true] at h
      rw [readTxb_ok (by have := s.txLen.isLt; simp only [txMax]; omega)] at h
      cases h; exact (Micro.verMore hl hi)
    · simp only [lineVerLoop, foldLoop, moreToSend, hi] at h
      cases h; exact .verDone hl (by omega)
  case csuEnd => cases h; exact .csuEnd hl
  case verEnd => cases h; exact .verEnd hl
  case rstTx => obtain ⟨ho, rfl⟩ := send_next h; exact .rstTx hl ho
  case sia1a => obtain ⟨ho, rfl⟩ := send_next h; exact .sia1a hl ho
  case sia1b => obtain ⟨ho, rfl⟩ := send_next h; exact .sia1b hl ho
  case sia2a => obtain ⟨ho, rfl⟩ := send_next h; exact .sia2a hl ho
  case sia3a => obtain ⟨ho, rfl⟩ := send_next h; exact .sia3a hl ho
  case sia3b => obtain ⟨ho, rfl⟩ := send_next h; exact .sia3b hl ho
  case sia4a => obtain ⟨ho, rfl⟩ := send_next h; exact .sia4a hl ho
  case sia4b => obtain ⟨ho, rfl⟩ := send_next h; exact .sia4b hl ho
  case sia5a => obtain ⟨ho, rfl⟩ := send_next h; exact .sia5a hl ho
  case sia5b => obtain ⟨ho, rfl⟩ := send_next h; exact .sia5b hl ho
  case sia6a => obtain ⟨ho, rfl⟩ := send_next h; exact .sia6a hl ho
  case chkTx =>
    rw [lineChkTx, setLink_record] at h
    obtain ⟨ho, rfl⟩ := send_next h; exact .chkTx hl ho
  case chkRx =>
    obtain ⟨ho, ⟨r, hr, h⟩ | ⟨b, r, hr, h⟩⟩ := readByte_next h <;> cases h
    · exact .chkRxTimeout r hl ho hr
    · exact .chkRxByte b r hl ho hr
  case rstRx =>
    obtain ⟨ho, ⟨r, hr, h⟩ | ⟨b, r, hr, h⟩⟩ := readByte_next h <;> cases h
    · exact .rstRxTimeout r hl ho hr
    · exact .rstRxByte b r hl ho hr
  case sia2b =>
    obtain ⟨ho, ⟨r, hr, h⟩ | ⟨b, r, hr, h⟩⟩ := readByte_next h <;> cases h
    · exact .sia2bTimeout r hl ho hr
    · exact .sia2bByte b r hl ho hr
  case sia2bSecond =>
    obtain ⟨ho, ⟨r, hr, h⟩ | ⟨b, r, hr, h⟩⟩ := readByte_next h <;> cases h
    · exact .sia2bSecondTimeout r hl ho hr
    · exact .sia2bSecondByte b r hl ho hr
  case sia6b =>
    obtain ⟨ho, ⟨r, hr, h⟩ | ⟨b, r, hr, h⟩⟩ := readByte_next h <;> cases h
    · exact .sia6bTimeout r hl ho hr
    · exact .sia6bByte b r hl ho hr
  case sia6bSecond =>
    obtain ⟨ho, ⟨r, hr, h⟩ | ⟨b, r, hr, h⟩⟩ := readByte_next h <;> cases h
    · exact .sia6bSecondTimeout r hl ho hr
    · exact .sia6bSecondByte b r hl ho hr
  case chkEnd =>
    unfold lineChkEnd at h
    split at h
    · cases h; exact .chkEndReady hl ‹_›
    · split at h <;> cases h
      · exact .chkEndTimeout hl ‹_›
      · exact .chkEndWrong hl (by simp_all) (by simp_all)
  case rstTop =>
    unfold lineRstTop at h
    split at h <;> cases h
    · exact .rstTopCancel hl ‹_›
    · exact .rstTopGo hl (by simp_all)
  case rstCmp =>
    unfold lineRstCmp at h
    split at h <;> cases h
    · exact .rstCmpAck hl ‹_›
    · exact .rstCmpRetry hl (by simp_all)
  case siaTop =>
    unfold lineSiaTop at h
    split at h <;> cases h
    · exact .siaTopCancel hl ‹_›
    · exact .siaTopGo hl (by simp_all)
  case sia2c =>
    unfold lineSia2c at h
    cases he : echoReceived s.siaEcho1 s <;> rw [he] at h <;> cases h
    · exact .sia2cFail hl he
    · exact .sia2cMatch hl he
  case sia5c => cases h; exact .sia5c hl
  case sia6c =>
    unfold lineSia6c at h
    split at h <;> cases h
    · exact .sia6cMatch hl ‹_›
    · exact .sia6cFail hl (by simp_all)
  case siaFail =>
    obtain ⟨ho, h⟩ := whenOpen_next h
    obtain ⟨k, p, hf⟩ := flush_eq s
    simp only [hf, emit, goto, Host.Outcome.next.injEq, List.append_assoc, List.cons_append, List.nil_append] at h
    subst h; exact .siaFail k p hl ho hf
  case iniOpen =>
    cases ho : s.isOpen <;> simp only [lineIniOpen, tisOpen, ho] at h <;> cases h
    · exact .iniOpenNo hl ho
    · exact .iniOpenYes hl ho
  case iniCfg => obtain ⟨ho, h⟩ := whenOpen_next h; cases h; exact .iniCfg hl ho
  case iniTop =>
    unfold lineIniTop at h
    split at h <;> cases h
    · exact .iniTopCancel hl ‹_›
    · exact .iniTopGo hl (by simp_all)
  case iniRst => rw [lineIniRst, setLink_record] at h; cases h; exact .iniRst hl
  case iniSia => rw [lineIniSia, setLink_record] at h; cases h; exact .iniSia hl
  case iniChk => cases h; exact .iniChk hl
  case iniEnd =>
    unfold lineIniEnd at h
    split at h <;> cases h
    · exact .iniEndOk hl ‹_›
    · exact .iniEndRetry hl (by simp_all)
  case rdDec => cases h; exact .rdDec hl
  case rdSw =>
    by_cases hc : s.retCode = .linkLost <;> simp only [lineRdSw, hc, if_true, if_false] at h <;> cases h
    · exact .rdSwLost hl hc
    · exact .rdSwEnd hl hc
  case rdLost => cases h; exact .rdLost hl
  case rdEnd => cases h; exact .rdEnd hl
  case decCtrl =>
    obtain ⟨ho, ⟨r, hr, h⟩ | ⟨b, r, hr, h⟩⟩ := readByte_next h <;> cases h
    · exact .decCtrlTimeout r hl ho hr
    · exact .decCtrlByte b r hl ho hr
  case decCls =>
    unfold lineDecCls at h
    split at h
    · cases h; exact .decClsLost hl ‹_›
    · cases h; exact .decClsNeg hl ‹_›
    · cases h; exact .decClsPos hl ‹_›
    · cases h; exact .decClsOther hl ‹_›
    · obtain ⟨a, ha, h⟩ := orFault_next h
      obtain ⟨hlt, rfl⟩ := push_next ha
      cases h; exact .decClsCtrl _ hl rfl ‹_› hlt
  case decAddr =>
    obtain ⟨ho, ⟨r, hr, h⟩ | ⟨b, r, hr, h⟩⟩ := readByte_next h
    · cases h; exact .decAddrTimeout r hl ho hr
    · obtain ⟨a, ha, h⟩ := orFault_next h
      obtain ⟨hlt, rfl⟩ := push_next ha
      by_cases hc : s.cnt - 1 = 0 <;> simp only [hc, if_true, if_false] at h <;> cases h
      · rw [← hc]; exact .decAddrLast b r hl ho hr hlt hc
      · exact .decAddrMore b r hl ho hr hlt hc
  case decLen =>
    obtain ⟨ho, ⟨r, hr, h⟩ | ⟨b, r, hr, h⟩⟩ := readByte_next h
    · cases h; exact .decLenTimeout r hl ho hr
    · obtain ⟨a, ha, h⟩ := orFault_next h
      obtain ⟨hlt, rfl⟩ := push_next ha
      cases h; exact .decLenByte b r hl ho hr hlt
  case decPay =>
    obtain ⟨ho, ⟨r, hr, h⟩ | ⟨b, r, hr, h⟩⟩ := readByte_next h
    · cases h; exact .decPayTimeout r hl ho hr
    · obtain ⟨a, ha, h⟩ := orFault_next h
      obtain ⟨hlt, rfl⟩ := push_next ha
      by_cases hc : s.cnt - 1 = 0 <;> simp only [hc, if_true, if_false] at h <;> cases h
      · rw [← hc]; exact .decPayLast b r hl ho hr hlt hc
      · exact .decPayMore b r hl ho hr hlt hc
  case decChk =>
    obtain ⟨ho, ⟨r, hr, h⟩ | ⟨b, r, hr, h⟩⟩ := readByte_next h <;> cases h
    · exact .decChkTimeout r hl ho hr
    · exact .decChkByte b r hl ho hr
  case decVfy =>
    unfold lineDecVfy at h
    split at h <;> cases h
    · exact .decVfyOk hl ‹_›
    · exact .decVfyBad hl (by simp_all)
  case wrChk =>
    by_cases hn : s.txLen.toNat < txMin <;> simp only [lineWrChk, frameTooShort, hn] at h <;> cases h
    · exact .wrChkShort hl hn
    · exact .wrChkGo hl (by omega)
  case wrPfx =>
    unfold lineWrPfx at h
    split at h
    · obtain ⟨ho, rfl⟩ := send_next h; exact .wrPfx hl ho ((prefixIndexOk_iff _).1 ‹_›)
    · cases h
  case wrDat =>
    by_cases hi : s.idx.toNat < txMax
    · rw [lineWrDat, readTxb_ok hi] at h
      obtain ⟨ho, h⟩ := whenOpen_next h
      by_cases hn : (s.idx + 1).toNat < s.txLen.toNat
      · simp only [moreToSend, csAbsorb, twrite, emit, hn, decide_true, if_true] at h
        cases h; exact .wrDatMore hl ho hi hn
      · simp only [moreToSend, csAbsorb, twrite, emit, hn, decide_false] at h
        cases h; exact .wrDatLast hl ho hi (by omega)
    · simp [lineWrDat, readTxb, hi, orFault] at h
  case wrEnd =>
    unfold lineWrEnd at h
    split at h
    · rename_i hn
      obtain ⟨ho, rfl⟩ := send_next h
      exact .wrEnd hl ho (by simpa [endLengthOk, txMin] using hn)
    · cases h
  case wrCs => obtain ⟨ho, h⟩ := whenOpen_next h; cases h; exact .wrCs hl ho

/-- Each of them is what the line answers. -/
theorem next_of_micro (h : Micro s t) : microLine s = .next t := by
  cases h
  case csuMore h hi | verMore h hi =>
    rw [microLine, h]
    simp only [lineCsuLoop, lineVerLoop, foldLoop, moreToSend, hi, decide_true, if_true]
    rw [readTxb_ok (by have := s.txLen.isLt; simp only [txMax]; omega)]
    rfl
  case csuDone h hi | verDone h hi =>
    have hn : ¬ s.idx.toNat < s.txLen.toNat := by omega
    simp [microLine, h, lineCsuLoop, lineVerLoop, foldLoop, moreToSend, hn, goto]
  case rstTx h ho | sia1a h ho | sia1b h ho | sia2a h ho | sia3a h ho | sia3b h ho | sia4a h ho | sia4b h ho | sia5a h ho |
      sia5b h ho | sia6a h ho =>
    rw [microLine, h]; exact send_open _ _ ho
  case chkTx h ho =>
    rw [microLine, h]
    simp only [lineChkTx, setLink_record]
    exact send_open _ _ ho
  case chkRxTimeout h ho hr | rstRxTimeout h ho hr | sia2bTimeout h ho hr | sia2bSecondTimeout h ho hr |
      sia6bTimeout h ho hr | sia6bSecondTimeout h ho hr =>
    rw [microLine, h]; exact readByte_timeout ho hr
  case chkRxByte h ho hr | rstRxByte h ho hr | sia2bByte h ho hr | sia2bSecondByte h ho hr | sia6bByte h ho hr |
      sia6bSecondByte h ho hr =>
    rw [microLine, h]; exact readByte_byte ho hr
  case decCtrlTimeout h ho hr | decAddrTimeout h ho hr | decLenTimeout h ho hr | decPayTimeout h ho hr |
      decChkTimeout h ho hr =>
    rw [microLine, h]; exact readByte_timeout (by exact ho) (by exact hr)
  case decCtrlByte h ho hr | decChkByte h ho hr =>
    rw [microLine, h]; exact readByte_byte (by exact ho) (by exact hr)
  case decClsCtrl b h hb hc hl =>
    subst hb
    simp only [microLine, h, lineDecCls, hc, takeCtrl]
    rw [push_ok hl]; rfl
  case decAddrMore h ho hr hl hc =>
    rw [microLine, h]; refine (readByte_byte ho hr).trans ?_
    simp only [pushCounted]; rw [push_ok (by exact hl)]; simp only [orFault, hc, if_false]; rfl
  case decAddrLast h ho hr hl hc =>
    rw [microLine, h]; refine (readByte_byte ho hr).trans ?_
    simp only [pushCounted]; rw [push_ok (by exact hl)]; simp only [orFault, hc, if_true]; rfl
  case decPayMore h ho hr hl hc =>
    rw [microLine, h]; refine (readByte_byte ho hr).trans ?_
    simp only [pushCounted]; rw [push_ok (by exact hl)]; simp only [orFault, hc, if_false]; rfl
  case decPayLast h ho hr hl hc =>
    rw [microLine, h]; refine (readByte_byte ho hr).trans ?_
    simp only [pushCounted]; rw [push_ok (by exact hl)]; simp only [orFault, hc, if_true]; rfl
  case decLenByte h ho hr hl =>
    rw [microLine, h]; refine (readByte_byte ho hr).trans ?_
    rw [push_ok (by exact hl)]; rfl
  case siaFail k p h ho hf =>
    simp [microLine, h, lineSiaFail, flushInput, whenOpen, ho, hf, goto, emit]
  case iniCfg h ho => simp [microLine, h, lineIniCfg, whenOpen, ho, goto, tconfigure, emit]
  case iniOpenYes h ho | iniOpenNo h ho => simp [microLine, h, lineIniOpen, tisOpen, ho, goto, emit]
  case iniRst h | iniSia h => simp [microLine, h, lineIniRst, lineIniSia, setLink_record, goto]
  case wrPfx h ho hi =>
    simp only [microLine, h, lineWrPfx, (prefixIndexOk_iff _).2 hi, if_true]; exact send_open _ _ ho
  case wrDatMore h ho hi hn =>
    simp only [microLine, h, lineWrDat, readTxb_ok hi, orFault, sendData, whenOpen, ho, if_true, moreToSend, csAbsorb,
      twrite, emit, goto, hn, decide_true]
  case wrDatLast h ho hi hn =>
    have hn' : ¬ (s.idx + 1).toNat < s.txLen.toNat := by omega
    simp only [microLine, h, lineWrDat, readTxb_ok hi, orFault, sendData, whenOpen, ho, if_true, moreToSend, csAbsorb,
      twrite, emit, goto, hn', decide_false, Bool.false_eq_true, if_false]
  case wrEnd h ho hn =>
    have : endLengthOk s.txLen = true := by simpa [endLengthOk, txMin] using hn
    simp only [microLine, h, lineWrEnd, this, if_true]; exact send_open _ _ ho
  case chkEndTimeout h ht => simp [microLine, h, lineChkEnd, readyReceived, ht]
  case wrCs h ho => simp [microLine, h, lineWrCs, sendChecksum, whenOpen, ho, twrite, emit]
  case wrChkShort h hn => simp [microLine, h, lineWrChk, frameTooShort, hn]
  case wrChkGo h hn =>
    have : ¬ s.txLen.toNat < txMin := by omega
    simp [microLine, h, lineWrChk, frameTooShort, this, goto, csInit]
  all_goals
    simp_all [microLine, lineCsuInit, lineVerInit, foldInit, lineCsuEnd, lineVerEnd, lineChkEnd, takeReady, lineRstTop,
      lineRstCmp, takeResetAck, lineSiaTop, lineSia2c, lineSia5c, lineSia6c, takeSecondEcho, lineIniTop, lineIniChk,
      lineIniEnd, lineRdDec, lineRdSw, lineRdLost, lineRdEnd, lineDecCls, takeConfirmation, lineDecVfy, goto, emit,
      tdelay, csInit, returnSub]

end Sys2Proof.Machine
end

