-- ==== Sys2Proof/Laws/Host.lean ====
section
/-! SUPPORT. What the moves of the host, the platform and the transport do, once: the pulse of `op_start` by code, the other moves as whole
states. -/

namespace Sys2Proof.Machine

variable {s t : State}

/-- R205: a write that leaves the value makes no event. -/
@[simp] theorem linkEvent_self (v : LinkState) : linkEvent v v = [] := by simp [linkEvent]

/-- R25: the acceptance of a code, as a whole state. -/
theorem startOp_record (op : HostOp) (s : State) :
    startOp op s =
      { s with
        curOp := op, busy := true, seq := firstLabel op, linkState := entryLink op s.linkState,
        events := s.events ++ [.start op] ++ linkEvent s.linkState (entryLink op s.linkState) } := by
  cases op <;> simp [startOp_eq, onEntry, setLink_record, entryLink]

/-- R95: the rejection of a code, as a whole state. -/
theorem rejectCode_record (c : BitVec 4) (s : State) :
    rejectCode c s = { s with resOk := false, resCode := .illegalOp, events := s.events ++ [.illegal c] } := rfl

/-- R25: the three kinds of codes on an idle block. -/
theorem exec_opCode (c : BitVec 4) (h : s.busy = false) :
    (c = 0 ∧ exec (decodeOpCode c) s = .next s) ∨
    (∃ op, op ≠ .nop ∧ op.code = c ∧ exec (decodeOpCode c) s = .next (startOp op s)) ∨
    (9 ≤ c.toNat ∧ exec (decodeOpCode c) s = .next (rejectCode c s)) := by
  have : c = 0 ∨ c = 1 ∨ c = 2 ∨ c = 3 ∨ c = 4 ∨ c = 5 ∨ c = 6 ∨ c = 7 ∨ c = 8 ∨ c = 9 ∨ c = 10 ∨ c = 11 ∨ c = 12 ∨
      c = 13 ∨ c = 14 ∨ c = 15 := by revert c; decide
  rcases this with rfl | rfl | rfl | rfl | rfl | rfl | rfl | rfl | rfl | rfl | rfl | rfl | rfl | rfl | rfl | rfl
  · exact .inl ⟨rfl, rfl⟩
  · exact .inr (.inl ⟨.csum, by decide, rfl, by simp [decodeOpCode, exec, execCsum, h]⟩)
  · exact .inr (.inl ⟨.verify, by decide, rfl, by simp [decodeOpCode, exec, execVerify, h]⟩)
  · exact .inr (.inl ⟨.chkstate, by decide, rfl, by simp [decodeOpCode, exec, execChkstate, h]⟩)
  · exact .inr (.inl ⟨.reset, by decide, rfl, by simp [decodeOpCode, exec, execReset, h]⟩)
  · exact .inr (.inl ⟨.setaddr, by decide, rfl, by simp [decodeOpCode, exec, execSetaddr, h]⟩)
  · exact .inr (.inl ⟨.init, by decide, rfl, by simp [decodeOpCode, exec, execInit, h]⟩)
  · exact .inr (.inl ⟨.read, by decide, rfl, by simp [decodeOpCode, exec, execRead, h]⟩)
  · exact .inr (.inl ⟨.write, by decide, rfl, by simp [decodeOpCode, exec, execWrite, h]⟩)
  · exact .inr (.inr ⟨by decide, by simp [decodeOpCode, exec, execReserved9, startReserved, h]⟩)
  · exact .inr (.inr ⟨by decide, by simp [decodeOpCode, exec, execReservedA, startReserved, h]⟩)
  · exact .inr (.inr ⟨by decide, by simp [decodeOpCode, exec, execReservedB, startReserved, h]⟩)
  · exact .inr (.inr ⟨by decide, by simp [decodeOpCode, exec, execReservedC, startReserved, h]⟩)
  · exact .inr (.inr ⟨by decide, by simp [decodeOpCode, exec, execReservedD, startReserved, h]⟩)
  · exact .inr (.inr ⟨by decide, by simp [decodeOpCode, exec, execReservedE, startReserved, h]⟩)
  · exact .inr (.inr ⟨by decide, by simp [decodeOpCode, exec, execReservedF, startReserved, h]⟩)

/-- The moves other than the engine's turn, as whole states. -/
inductive HostStep (s : State) : HostMove → State → Prop where
  | ignored (c : BitVec 4) (hb : s.busy = true) : HostStep s (.opStart c) s
  | nop (hb : s.busy = false) : HostStep s (.opStart 0) s
  | started (op : HostOp) (hb : s.busy = false) (hop : op ≠ .nop) :
    HostStep s (.opStart op.code)
      { s with
        curOp := op, busy := true, seq := firstLabel op, linkState := entryLink op s.linkState,
        events := s.events ++ [.start op] ++ linkEvent s.linkState (entryLink op s.linkState) }
  | rejected (c : BitVec 4) (hb : s.busy = false) (hc : 9 ≤ c.toNat) :
    HostStep s (.opStart c) { s with resOk := false, resCode := .illegalOp, events := s.events ++ [.illegal c] }
  | txbFrozen (i : Fin 63) (b : Byte) (hb : s.busy = true) : HostStep s (.writeTxb i b) s
  | txb (i : Fin 63) (b : Byte) (hb : s.busy = false) :
    HostStep s (.writeTxb i b) { s with txb := Memory.write s.txb i.val b }
  | txLenFrozen (n : BitVec 6) (hb : s.busy = true) : HostStep s (.writeTxLen n) s
  | txLen (n : BitVec 6) (hb : s.busy = false) : HostStep s (.writeTxLen n) { s with txLen := n }
  | chkInFrozen (b : Byte) (hb : s.busy = true) : HostStep s (.writeChkIn b) s
  | chkIn (b : Byte) (hb : s.busy = false) : HostStep s (.writeChkIn b) { s with chkIn := b }
  | cancel (v : Bool) : HostStep s (.setCancel v) { s with cancel := v }
  | hwReset : HostStep s .hwReset (hwReset s)
  | strap (v : Pair) : HostStep s (.strapIa v) { s with iaStrap := v }
  | opened (v : Bool) : HostStep s (.setOpen v) { s with isOpen := v }
  | answered (a : Answer) : HostStep s (.answer a) { s with rxStream := s.rxStream ++ [a] }
  | flushChosen (n : Nat) : HostStep s (.flushChoice n) { s with flushPlan := s.flushPlan ++ [n] }

/-- Every host move completes, as one of these. -/
theorem hostTurn_step (x : HostMove) (s : State) (h : engineNext (x :: []) = false) :
    ∃ t, (hostTurn x s).result = .next t ∧ HostStep s x t := by
  cases x
  case opStart c =>
    by_cases hb : s.busy = true
    · exact ⟨s, by simp [hostTurn, hb, Turn.result], .ignored c hb⟩
    · simp only [Bool.not_eq_true] at hb
      simp only [hostTurn, hb, Bool.false_eq_true, if_false, Turn.result]
      rcases exec_opCode c hb with ⟨rfl, he⟩ | ⟨op, hop, rfl, he⟩ | ⟨hc, he⟩
      · exact ⟨_, he, .nop hb⟩
      · exact ⟨_, he, startOp_record op s ▸ .started op hb hop⟩
      · exact ⟨_, he, .rejected c hb hc⟩
  case writeTxb i b =>
    by_cases hb : s.busy = true
    · exact ⟨s, by simp [hostTurn, whileIdle, hb, Turn.result], .txbFrozen i b hb⟩
    · exact ⟨_, by simp only [hostTurn, whileIdle, hb, Turn.result]; rfl, .txb i b (by simpa using hb)⟩
  case writeTxLen n =>
    by_cases hb : s.busy = true
    · exact ⟨s, by simp [hostTurn, whileIdle, hb, Turn.result], .txLenFrozen n hb⟩
    · exact ⟨_, by simp only [hostTurn, whileIdle, hb, Turn.result]; rfl, .txLen n (by simpa using hb)⟩
  case writeChkIn b =>
    by_cases hb : s.busy = true
    · exact ⟨s, by simp [hostTurn, whileIdle, hb, Turn.result], .chkInFrozen b hb⟩
    · exact ⟨_, by simp only [hostTurn, whileIdle, hb, Turn.result]; rfl, .chkIn b (by simpa using hb)⟩
  case setCancel v => exact ⟨_, rfl, .cancel v⟩
  case hwReset => exact ⟨_, rfl, .hwReset⟩
  case strapIa v => exact ⟨_, rfl, .strap v⟩
  case setOpen v => exact ⟨_, rfl, .opened v⟩
  case answer a => exact ⟨_, rfl, .answered a⟩
  case flushChoice n => exact ⟨_, rfl, .flushChosen n⟩
  case waitIdle => simp [engineNext] at h
  case letEngine => simp [engineNext] at h

/-- Everything a step can answer with a next state: a micro-step of the engine, a turn of the idle engine, or a host move,
each on the state without the move that was taken. -/
theorem next_cases (h : step s = .next t) :
    (engineNext s.moves = true ∧ s.busy = true ∧
      ∃ m, (m = s.moves ∨ ∃ x, s.moves = x :: m) ∧ Micro { s with moves := m } t) ∨
    (engineNext s.moves = true ∧ s.busy = false ∧
      ∃ m, (m = s.moves ∨ ∃ x, s.moves = x :: m) ∧ t = { s with moves := m }) ∨
    (engineNext s.moves = false ∧ ∃ x m, s.moves = x :: m ∧ HostStep { s with moves := m } x t) := by
  rcases step_cases s with ⟨he, hb, m, hm, hs⟩ | ⟨he, hb, m, hm, hs⟩ | ⟨he, x, m, hm, hs⟩ <;> rw [hs] at h
  · exact .inl ⟨he, hb, m, hm, micro_of_next h⟩
  · exact .inr (.inl ⟨he, hb, m, hm, by cases h; rfl⟩)
  · obtain ⟨t', ht, hh⟩ := hostTurn_step x { s with moves := m } (by rw [hm] at he; cases x <;> simp_all [engineNext])
    rw [ht] at h; cases h
    exact .inr (.inr ⟨he, x, m, hm, hh⟩)

end Sys2Proof.Machine
end

