-- ==== Sys2Proof/Laws/PerInstr.lean ====
section
/-! SUPPORT. Laws stated once per instruction: that an instruction has bytes exactly where it has a position. -/

namespace Sys2Proof.Laws.EncodesAtItsPosition

/-- R80, R83: an instruction has an encoding exactly when it has a position; the internal sub-operations have neither. -/
def Statement (i : Instr) : Prop := encode i ≠ [] ↔ ∃ p, i.position = some p

theorem nop : Statement .nop := by simp [Statement, Sys2Proof.encode, Instr.position]
theorem csum : Statement .csum := by simp [Statement, Sys2Proof.encode, Instr.position]
theorem verify : Statement .verify := by simp [Statement, Sys2Proof.encode, Instr.position]
theorem chkstate : Statement .chkstate := by simp [Statement, Sys2Proof.encode, Instr.position]
theorem reset : Statement .reset := by simp [Statement, Sys2Proof.encode, Instr.position]
theorem setaddr : Statement .setaddr := by simp [Statement, Sys2Proof.encode, Instr.position]
theorem init : Statement .init := by simp [Statement, Sys2Proof.encode, Instr.position]
theorem read : Statement .read := by simp [Statement, Sys2Proof.encode, Instr.position]
theorem write : Statement .write := by simp [Statement, Sys2Proof.encode, Instr.position]
theorem reserved9 : Statement .reserved9 := by simp [Statement, Sys2Proof.encode, Instr.position]
theorem reservedA : Statement .reservedA := by simp [Statement, Sys2Proof.encode, Instr.position]
theorem reservedB : Statement .reservedB := by simp [Statement, Sys2Proof.encode, Instr.position]
theorem reservedC : Statement .reservedC := by simp [Statement, Sys2Proof.encode, Instr.position]
theorem reservedD : Statement .reservedD := by simp [Statement, Sys2Proof.encode, Instr.position]
theorem reservedE : Statement .reservedE := by simp [Statement, Sys2Proof.encode, Instr.position]
theorem reservedF : Statement .reservedF := by simp [Statement, Sys2Proof.encode, Instr.position]
theorem decode : Statement .decode := by simp [Statement, Sys2Proof.encode, Instr.position]
theorem encode : Statement .encode := by simp [Statement, Sys2Proof.encode, Instr.position]
theorem flush : Statement .flush := by simp [Statement, Sys2Proof.encode, Instr.position]
theorem csInit : Statement .csInit := by simp [Statement, Sys2Proof.encode, Instr.position]
theorem csAbsorb (x1 : Byte) : Statement (.csAbsorb x1) := by simp [Statement, Sys2Proof.encode, Instr.position]
theorem rxLinklost : Statement .rxLinklost := by simp [Statement, Sys2Proof.encode, Instr.position]
theorem rxConfNeg : Statement .rxConfNeg := by simp [Statement, Sys2Proof.encode, Instr.position]
theorem rxConfPos : Statement .rxConfPos := by simp [Statement, Sys2Proof.encode, Instr.position]
theorem rxCtrl (x1 : Byte) : Statement (.rxCtrl x1) := by simp [Statement, Sys2Proof.encode, Instr.position]
theorem rxOther (x1 : Byte) : Statement (.rxOther x1) := by simp [Statement, Sys2Proof.encode, Instr.position]
theorem rxFrame (x1 x2 x3 x4 x5 x6 : Byte) (x7 : List Byte) (x8 : Byte) :
    Statement (.rxFrame x1 x2 x3 x4 x5 x6 x7 x8) := by simp [Statement, Sys2Proof.encode, Instr.position]
theorem rxResetAck : Statement .rxResetAck := by simp [Statement, Sys2Proof.encode, Instr.position]
theorem rxStateReady : Statement .rxStateReady := by simp [Statement, Sys2Proof.encode, Instr.position]
theorem rxSiaEcho1 (x1 : Pair) : Statement (.rxSiaEcho1 x1) := by simp [Statement, Sys2Proof.encode, Instr.position]
theorem rxSiaEcho2 (x1 : Pair) : Statement (.rxSiaEcho2 x1) := by simp [Statement, Sys2Proof.encode, Instr.position]
theorem txResetReq : Statement .txResetReq := by simp [Statement, Sys2Proof.encode, Instr.position]
theorem txStateReq : Statement .txStateReq := by simp [Statement, Sys2Proof.encode, Instr.position]
theorem txWriteProp : Statement .txWriteProp := by simp [Statement, Sys2Proof.encode, Instr.position]
theorem txReadProp : Statement .txReadProp := by simp [Statement, Sys2Proof.encode, Instr.position]
theorem txAddrHi : Statement .txAddrHi := by simp [Statement, Sys2Proof.encode, Instr.position]
theorem txAddrLo : Statement .txAddrLo := by simp [Statement, Sys2Proof.encode, Instr.position]
theorem txValue (x1 : Byte) : Statement (.txValue x1) := by simp [Statement, Sys2Proof.encode, Instr.position]
theorem txPrefix (x1 : BitVec 6) : Statement (.txPrefix x1) := by simp [Statement, Sys2Proof.encode, Instr.position]
theorem txData (x1 : Byte) : Statement (.txData x1) := by simp [Statement, Sys2Proof.encode, Instr.position]
theorem txEnd (x1 : BitVec 6) : Statement (.txEnd x1) := by simp [Statement, Sys2Proof.encode, Instr.position]
theorem txChecksum (x1 : Byte) : Statement (.txChecksum x1) := by simp [Statement, Sys2Proof.encode, Instr.position]

end Sys2Proof.Laws.EncodesAtItsPosition
end

