-- ==== Sys2Proof/Tests/Slice0.lean ====
section
/-! SUPPORT. The model's own tests: the smoke tests of WellFormed, a word for every constructor's decoding, one-step tests
whose results are worked out from spec/ (the rule or the vector is named), and a witness for every statement with
hypotheses. -/

namespace Sys2Proof.Tests

open Sys2Proof Sys2Proof.Machine

/-! ## Helpers -/

/-- A concrete idle state: an idle block on an open transport, with parameters as in a test bench. -/
def base : State where
  seq := .idle
  idx := 0
  cnt := 0
  busy := false
  curOp := .nop
  acc := 0
  chkIn := 0
  txLen := 0
  rxLen := 0
  rxb := 0
  echo := 0
  txb := []
  rxbuf := []
  linkState := .uninitialized
  ia := 0x1203
  resOk := false
  resCode := .none
  confPol := false
  cancel := false
  events := []
  txStream := []
  rxStream := []
  isOpen := true
  line := none
  rxTimeout := false
  retOk := false
  retCode := .none
  flushPlan := []
  moves := []
  iaStrap := 0x1203
  siaEcho1 := 0x1A00
  siaEcho2 := 0x1A01
  tSettleMs := 0
  epoch := 0
  rxbEpoch := 0

/-- The engine running `op` at label `l`. -/
def running (op : HostOp) (l : Label) : State := { base with seq := l, busy := true, curOp := op }

/-- The frame of the worked example of R113 and R129, checksum 0x85. -/
def sample : List Byte := [0x90, 0x10, 0x20, 0x30, 0x40, 0x00, 0xAA]

/-- The idle state with the sample frame loaded. -/
def loaded : State := { base with txb := writeRun [] 0 sample, txLen := 7 }

/-- What a test looks at in a next state. -/
def after {α : Type} (r : Result) (f : State → α) : Option α :=
  match r with
  | .next s => some (f s)
  | .fault _ => none
  | .refused _ => none

/-- The reason of a refusal. -/
def refusal (r : Result) : Option Refusal :=
  match r with
  | .refused e => some e
  | .next _ => none
  | .fault _ => none

/-! ## WellFormed: each check refuses an ill-formed term -/

theorem test_wf_rxCtrl_refused : (Instr.rxCtrl 0x00).wf = false := by decide
theorem test_wf_rxOther_refused : (Instr.rxOther 0x03).wf = false := by decide
theorem test_wf_rxFrame_control_refused : (Instr.rxFrame 0x91 0 0 0 0 0x00 [0xAA] 0).wf = false := by decide
theorem test_wf_rxFrame_count_refused : (Instr.rxFrame 0x90 0 0 0 0 0x01 [0xAA] 0).wf = false := by decide
theorem test_wf_txPrefix_refused : (Instr.txPrefix 63).wf = false := by decide
theorem test_wf_txEnd_refused : (Instr.txEnd 6).wf = false := by decide

/-! ## Decode: a word for every constructor that has a code, written out from spec/ -/

/-- R80, R95: the sixteen host codes. -/
theorem test_decode_host_codes :
    decodeAt .opCode [0x00] = .ok .nop [] ∧ decodeAt .opCode [0x01] = .ok .csum [] ∧
    decodeAt .opCode [0x02] = .ok .verify [] ∧ decodeAt .opCode [0x03] = .ok .chkstate [] ∧
    decodeAt .opCode [0x04] = .ok .reset [] ∧ decodeAt .opCode [0x05] = .ok .setaddr [] ∧
    decodeAt .opCode [0x06] = .ok .init [] ∧ decodeAt .opCode [0x07] = .ok .read [] ∧
    decodeAt .opCode [0x08] = .ok .write [] ∧ decodeAt .opCode [0x09] = .ok .reserved9 [] ∧
    decodeAt .opCode [0x0A] = .ok .reservedA [] ∧ decodeAt .opCode [0x0B] = .ok .reservedB [] ∧
    decodeAt .opCode [0x0C] = .ok .reservedC [] ∧ decodeAt .opCode [0x0D] = .ok .reservedD [] ∧
    decodeAt .opCode [0x0E] = .ok .reservedE [] ∧ decodeAt .opCode [0x0F] = .ok .reservedF [] ∧
    decodeAt .opCode [0x10] = .rejected (.wideOpCode 0x10) := by decide

/-- R85, R86: the five classes of a first byte. -/
theorem test_decode_first_bytes :
    decodeAt .firstByte [0x03, 0x55] = .ok .rxLinklost [0x55] ∧ decodeAt .firstByte [0x0B] = .ok .rxConfNeg [] ∧
    decodeAt .firstByte [0x8B] = .ok .rxConfPos [] ∧ decodeAt .firstByte [0x90] = .ok (.rxCtrl 0x90) [] ∧
    decodeAt .firstByte [0xBC] = .ok (.rxCtrl 0xBC) [] ∧ decodeAt .firstByte [0x91] = .ok (.rxOther 0x91) [] ∧
    decodeAt .firstByte [0x10] = .ok (.rxOther 0x10) [] := by decide

/-- R87, R88, R99: a frame of one payload byte, one of two, one cut short, one without a control field. -/
theorem test_decode_frame :
    decodeAt .frame [0x90, 0x10, 0x20, 0x30, 0x40, 0x00, 0xAA, 0x85, 0x77] =
      .ok (.rxFrame 0x90 0x10 0x20 0x30 0x40 0x00 [0xAA] 0x85) [0x77] ∧
    decodeAt .frame [0xB0, 0x10, 0x20, 0x30, 0x40, 0xE1, 0xAA, 0x85, 0x77] =
      .ok (.rxFrame 0xB0 0x10 0x20 0x30 0x40 0xE1 [0xAA, 0x85] 0x77) [] ∧
    decodeAt .frame [0x90, 0x10, 0x20, 0x30, 0x40, 0x01, 0xAA, 0x85] = .rejected .truncated ∧
    decodeAt .frame [0x03, 0x10, 0x20, 0x30, 0x40, 0x00, 0xAA, 0x85] = .rejected (.notControlField 0x03) := by decide

/-- R89: the handshake responses, each at its position only. -/
theorem test_decode_responses :
    decodeAt .resetResponse [0x03] = .ok .rxResetAck [] ∧ decodeAt .stateResponse [0x07] = .ok .rxStateReady [] ∧
    decodeAt .resetResponse [0x07] = .rejected (.responseMismatch 0x07) ∧
    decodeAt .echoFirst [0x1A, 0x00] = .ok (.rxSiaEcho1 0x1A00) [] ∧
    decodeAt .echoSecond [0x1A, 0x01] = .ok (.rxSiaEcho2 0x1A01) [] := by decide

/-- R82: the six command bytes. -/
theorem test_decode_commands :
    decodeAt .command [0x01] = .ok .txResetReq [] ∧ decodeAt .command [0x02] = .ok .txStateReq [] ∧
    decodeAt .command [0x22] = .ok .txWriteProp [] ∧ decodeAt .command [0x1A] = .ok .txReadProp [] ∧
    decodeAt .command [0x1F] = .ok .txAddrHi [] ∧ decodeAt .command [0x1E] = .ok .txAddrLo [] ∧
    decodeAt .command [0x03] = .rejected (.notACommand 0x03) := by decide

/-- R83, R90, R91, R92: the other bytes of the TX direction, at the ends of their ranges. -/
theorem test_decode_transmit :
    decodeAt .value [0x12] = .ok (.txValue 0x12) [] ∧ decodeAt .data [0xAA] = .ok (.txData 0xAA) [] ∧
    decodeAt .checksum [0x85] = .ok (.txChecksum 0x85) [] ∧ decodeAt .dataPrefix [0x80] = .ok (.txPrefix 0) [] ∧
    decodeAt .dataPrefix [0xBE] = .ok (.txPrefix 62) [] ∧ decodeAt .dataPrefix [0xBF] = .rejected (.notAPrefix 0xBF) ∧
    decodeAt .endMark [0x47] = .ok (.txEnd 7) [] ∧ decodeAt .endMark [0x7F] = .ok (.txEnd 63) [] ∧
    decodeAt .endMark [0x46] = .rejected (.notAnEndMarker 0x46) := by decide

/-- Log 13: words of the opcode table, which do not say their position. -/
theorem test_decode_table_words :
    decodeTableWord 4 0x8 = some .write ∧ decodeTableWord 8 0x8B = some .rxConfPos ∧
    decodeTableWord 8 0xB4 = some (.rxCtrl 0xB4) ∧ decodeTableWord 8 0x22 = some .txWriteProp ∧
    decodeTableWord 8 0x85 = some (.txPrefix 5) ∧ decodeTableWord 8 0x47 = some (.txEnd 7) ∧
    decodeTableWord 8 0xFF = some (.rxOther 0xFF) ∧
    decodeTableWord 64 0x85AA004030201090 = some (.rxFrame 0x90 0x10 0x20 0x30 0x40 0x00 [0xAA] 0x85) := by decide

/-- Log 14: a word stored at the fetch runs as the first instruction after reset. -/
theorem test_fetch_word_runs_after_reset :
    after (step (State.reset.withFetchWord 4 0x4)) (fun t => (t.seq, t.curOp, t.busy, t.linkState)) =
      some (.rstTop, .reset, true, .resetting) ∧
    after (step (State.reset.withFetchWord 8 0x8B)) (fun t => (t.retCode, t.confPol)) =
      some (.confirmationOnly, true) := by decide

/-! ## One step of each kind -/

/-- R114: `LOAD 90 10 20 30 40 00 AA; CHK 85; VERIFY` ends with ok=1, with `CHK 84` with ok=0 and no error kind. -/
theorem test_verify_end :
    after (exec .verify { running .verify .verEnd with acc := 0x85, chkIn := 0x85 }) (fun t => (t.resOk, t.resCode)) =
      some (true, .none) ∧
    after (exec .verify { running .verify .verEnd with acc := 0x85, chkIn := 0x84 }) (fun t => (t.resOk, t.resCode)) =
      some (false, .none) := by decide

/-- R113: the worked example's checksum, and that of the empty sequence. -/
theorem test_checksum_of_the_sample : cs sample = 0x85 ∧ cs [] = 0xFF ∧ cs [0xFF] = 0x00 := by decide

/-- R113: one turn of the loop of `CSUM` folds `TXB[idx]` and counts. -/
theorem test_csum_loop :
    after (exec .csum { loaded with seq := .csuLoop, busy := true, curOp := .csum, acc := 0xFF, idx := 0 })
      (fun t => (t.seq, t.acc, t.idx)) = some (.csuLoop, 0x6F, 1) := by decide

/-- R95: a reserved code on an idle block. -/
theorem test_reserved_code :
    after (exec .reservedC { base with resOk := true }) (fun t => (t.resOk, t.resCode, t.busy, t.events)) =
      some (false, .illegalOp, false, [.illegal 0xC]) := by decide

/-- R25, R220: a pulse while busy changes nothing. -/
theorem test_start_while_busy :
    step { running .csum .csuInit with moves := [.opStart 0x9] } = .next (running .csum .csuInit) := by rfl

/-- R140: a wrong byte has no error kind; a timeout has. -/
theorem test_chkstate_end :
    after (exec .chkstate { running .chkstate .chkEnd with rxb := 0x0F }) (fun t => (t.resOk, t.resCode)) =
      some (false, .none) ∧
    after (exec .chkstate { running .chkstate .chkEnd with rxTimeout := true, rxb := 0x07 })
      (fun t => (t.resOk, t.resCode, t.linkState)) = some (false, .timeout, .uninitialized) := by decide

/-- R143: a wrong acknowledgement goes round the loop with `Retry(RESET)`. -/
theorem test_reset_retries :
    after (exec .reset { running .reset .rstCmp with rxb := 0x07 }) (fun t => (t.seq, t.events)) =
      some (.rstTop, [.retry .reset]) := by decide

/-- R147, R54: the first byte of an echo is its high half. -/
theorem test_setaddr_reads_an_echo :
    after (exec .setaddr { running .setaddr .sia2b with rxStream := [.byte 0x1A, .byte 0x00], echo := 0xFFEE })
      (fun t => (t.seq, t.echo, t.rxStream)) = some (.sia2bSecond, 0x1AEE, [.byte 0x00]) ∧
    after (exec .setaddr { running .setaddr .sia2bSecond with rxStream := [.byte 0x00], echo := 0x1AEE })
      (fun t => (t.seq, t.echo)) = some (.sia2c, 0x1A00) := by decide

/-- R151: the failure path flushes and retries. -/
theorem test_setaddr_flushes :
    after (exec .setaddr { running .setaddr .siaFail with rxStream := [.byte 1, .timeout, .byte 2] })
      (fun t => (t.seq, t.rxStream, t.events)) = some (.siaTop, [.byte 2], [.flush .tFlush, .retry .setaddr]) := by decide

/-- R147, R93: `SIA_3B` sends the high byte of `IA`, `SIA_4B` the low one. -/
theorem test_address_bytes :
    after (step (running .setaddr .sia3b)) State.txStream = some [0x12] ∧
    after (step (running .setaddr .sia4b)) State.txStream = some [0x03] := by decide

/-- R155, R63: the line parameters `INIT` asks for. -/
theorem test_init_configures :
    after (exec .init (running .init .iniCfg)) (fun t => (t.seq, t.line)) =
      some (.iniTop, some { baud := 19200, dataBits := 8, parity := .even, stopBits := 1, flowControl := false }) := by
  decide

/-- R24, R155: `RESET` called by `INIT` returns to it; cancelled, it ends it. -/
theorem test_init_calls_reset :
    after (exec .reset { running .init .rstCmp with rxb := 0x03 }) (fun t => (t.seq, t.busy, t.linkState)) =
      some (.iniSia, true, .addressAssigning) ∧
    after (exec .reset { running .init .rstTop with cancel := true }) (fun t => (t.busy, t.resCode, t.events)) =
      some (false, .cancelled, [.done .init false .cancelled]) := by decide

/-- R171: after `LinkLost` `READ` makes a state check, whose outcome does not change its result. -/
theorem test_read_checks_the_state :
    after (exec .read { running .read .rdSw with retCode := .linkLost }) State.seq = some .rdLost ∧
    after (exec .rxStateReady { running .read .chkEnd with retCode := .linkLost }) (fun t => (t.seq, t.linkState, t.retCode)) =
      some (.rdEnd, .ready, .linkLost) := by decide

/-- R120, R88: the length byte gives the count of payload bytes, 1 to 16. -/
theorem test_decode_length :
    after (exec .decode { running .read .decLen with rxLen := 5, rxStream := [.byte 0xE0] }) State.cnt = some 1 ∧
    after (exec .decode { running .read .decLen with rxLen := 5, rxStream := [.byte 0x0F] }) State.cnt = some 16 := by decide

/-- R129: the worked example, and the same frame with another checksum byte. -/
theorem test_frame_reception :
    after (exec (.rxFrame 0x90 0x10 0x20 0x30 0x40 0x00 [0xAA] 0x85) (running .read .decCtrl))
      (fun t => (t.retOk, t.rxLen, t.rxFrame)) = some (true, 7, sample) ∧
    after (exec (.rxFrame 0x90 0x10 0x20 0x30 0x40 0x00 [0xAA] 0x84) (running .read .decCtrl))
      (fun t => (t.retCode, t.rxLen)) = some (.checksumMismatch, 0) := by decide

/-- R122: a positive confirmation. -/
theorem test_confirmation :
    after (exec .rxConfPos (running .read .decCls)) (fun t => (t.retCode, t.confPol)) =
      some (.confirmationOnly, true) := by decide

/-- R130: the pair of a frame byte on the TX stream, absorbed once. -/
theorem test_write_sends_a_pair :
    after (step { loaded with seq := .wrPfx, busy := true, curOp := .write, idx := 6 }) State.txStream = some [0x86] ∧
    after (step { loaded with seq := .wrDat, busy := true, curOp := .write, idx := 6, acc := 0x2F })
      (fun t => (t.seq, t.txStream, t.acc)) = some (.wrEnd, [0xAA], 0x85) := by decide

/-- R130: the encoding of the sample frame, written out from its definition. -/
theorem test_encoding :
    enc sample = some [0x80, 0x90, 0x81, 0x10, 0x82, 0x20, 0x83, 0x30, 0x84, 0x40, 0x85, 0x00, 0x86, 0xAA, 0x47, 0x85] := by
  decide

/-- Log 10, log 12: the two refusals that a label can end in. -/
theorem test_refusals :
    refusal (exec .txResetReq { running .reset .rstTx with isOpen := false }) = some .transportClosed ∧
    refusal (exec (.txPrefix 63) (running .write .wrPfx)) = some .outsideFormat ∧
    refusal (exec (.rxCtrl 0x03) (running .read .decCls)) = some .outsideFormat := by decide

/-- R43, R57: a byte that the device sends between two micro-steps is what the next `TRead` answers. -/
theorem test_answer_arrives :
    after (steps 2 { running .chkstate .chkRx with moves := [.answer (.byte 0x07), .letEngine] })
      (fun t => (t.seq, t.rxb, t.rxStream)) = some (.chkEnd, 0x07, []) := by decide

/-- R101: `LOAD` and `CHK` as moves. -/
theorem test_host_program :
    programMoves [.load [0xAA, 0xBB], .chk 0x85, .op .verify] =
      some [.writeTxb 0 0xAA, .writeTxb 1 0xBB, .writeTxLen 2, .writeChkIn 0x85, .opStart 0x2, .waitIdle] := by decide

/-! ## Witnesses: a concrete state and operands that meet the hypotheses of each statement -/

/-- The invariant at a label, from its parts that evaluate. -/
theorem inv_of (s : State) (h : (decide (s.busy = true ↔ s.seq ≠ .idle) && (!s.busy || opFits s.curOp s.seq) &&
    Memory.wf txMax s.txb && Memory.wf rxMax s.rxbuf && decide (s.rxLen.toNat ≤ rxMax) &&
    (!s.resOk || s.resCode == .none) && (!s.retOk || s.retCode == .none) && s.siaEcho1 != s.siaEcho2) = true)
    (here : labelFacts s) : Inv s := by
  simp only [Bool.and_eq_true, decide_eq_true_eq, Bool.or_eq_true, Bool.not_eq_true', beq_iff_eq, bne_iff_ne] at h
  obtain ⟨⟨⟨⟨⟨⟨⟨h1, h2⟩, h3⟩, h4⟩, h5⟩, h6⟩, h7⟩, h8⟩ := h
  exact ⟨h1, fun hb => by simpa [hb] using h2, h3, h4, h5, fun hb => by simpa [hb] using h6,
    fun hb => by simpa [hb] using h7, h8, here⟩

/-- An engine in the middle of a payload. -/
def receiving : State :=
  { running .read .decPay with
    rxLen := 6, cnt := 1, rxbuf := writeRun [] 0 [0x90, 0x10, 0x20, 0x30, 0x40, 0x00], acc := 0x2F,
    rxStream := [.byte 0xAA, .byte 0x85] }

/-- An engine in the middle of a frame to send. -/
def sending : State := { loaded with seq := .wrDat, busy := true, curOp := .write, idx := 6, acc := 0x2F }

theorem base_inv : Inv base := inv_of _ (by decide) trivial

theorem receiving_inv : Inv receiving := inv_of _ (by decide) (by unfold labelFacts receiving running; decide)

theorem sending_inv : Inv sending := inv_of _ (by decide) (by unfold labelFacts sending loaded; decide)

theorem test_witness_DecodeOfEncode :
    (Instr.rxFrame 0xBC 1 2 3 4 0x0F (List.replicate 16 0x55) 0).wf = true ∧
    (Instr.rxFrame 0xBC 1 2 3 4 0x0F (List.replicate 16 0x55) 0).position = some .frame ∧
    (Instr.txPrefix 62).wf = true ∧ (Instr.txPrefix 62).position = some .dataPrefix := by decide

theorem test_witness_EncodeOfDecode : decodeAt .endMark [0x7F, 0x01] = .ok (.txEnd 63) [0x01] := by decide

theorem test_witness_StepRunsTheDecodedInstruction :
    (∃ s : State, s.moves = .opStart 0xF :: [] ∧ s.busy = false ∧
      decodeAt .opCode [(0xF : BitVec 4).setWidth 8] = .ok .reservedF []) ∧
    (∃ s : State, s.runsAt .decCls ∧ decodeAt .firstByte [s.rxb] = .ok (.rxCtrl 0xBC) []) ∧
    (∃ s : State, s.runsAt .rstCmp ∧ s.rxTimeout = false ∧ decodeAt .resetResponse [s.rxb] = .ok .rxResetAck []) ∧
    (∃ s : State, s.runsAt .chkEnd ∧ s.rxTimeout = false ∧ decodeAt .stateResponse [s.rxb] = .ok .rxStateReady []) ∧
    (∃ s : State, s.busy = true ∧ s.moves = []) :=
  ⟨⟨{ base with moves := [.opStart 0xF] }, by decide⟩,
   ⟨{ running .read .decCls with rxb := 0xBC }, ⟨rfl, rfl, rfl⟩, by decide⟩,
   ⟨{ running .reset .rstCmp with rxb := 0x03 }, ⟨rfl, rfl, rfl⟩, by decide⟩,
   ⟨{ running .read .chkEnd with rxb := 0x07 }, ⟨rfl, rfl, rfl⟩, by decide⟩,
   ⟨running .init .iniOpen, by decide⟩⟩

theorem test_witness_MicroStepsAreTheirOperations : sending.busy = true ∧ owner sending.seq = .write := by decide

theorem test_witness_StartOfAnOperation :
    (∃ s : State, s.moves = [.opStart 0x8] ∧ s.busy = true) ∧ (∃ s : State, s.moves = [.opStart 0x0] ∧ s.busy = false) ∧
    (∃ s : State, s.moves = [.opStart 0x9] ∧ s.busy = false ∧ 9 ≤ (0x9 : BitVec 4).toNat) ∧
    (∃ s : State, s.moves = [.opStart 0x1] ∧ s.busy = false ∧ HostOp.csum ≠ .nop ∧ (0x1 : BitVec 4) = HostOp.csum.code) ∧
    (∃ s : State, s.moves = [.opStart 0x8] ∧ s.busy = false ∧ HostOp.write ≠ .nop ∧ (0x8 : BitVec 4) = HostOp.write.code) :=
  ⟨⟨{ running .read .rdDec with moves := [.opStart 0x8] }, by decide⟩, ⟨{ base with moves := [.opStart 0x0] }, by decide⟩,
   ⟨{ base with moves := [.opStart 0x9] }, by decide⟩, ⟨{ base with moves := [.opStart 0x1] }, by decide⟩,
   ⟨{ base with moves := [.opStart 0x8] }, by decide⟩⟩

theorem test_witness_NopAndReservedCodes :
    base.busy = false ∧
    (Instr.reserved9, (0x9 : BitVec 4)) ∈ [(Instr.reserved9, (0x9 : BitVec 4)), (.reservedA, 0xA), (.reservedB, 0xB),
      (.reservedC, 0xC), (.reservedD, 0xD), (.reservedE, 0xE), (.reservedF, 0xF)] := by decide

theorem test_witness_CsInitAndAbsorbInAnyOrder : ([0x02, 0x01] : List Byte).Perm [0x01, 0x02] := by decide

theorem test_witness_WhatTheChecksumDetects :
    (0 < sample.length ∧ 7 < 8 ∧ verifyChecksum sample 0x85 = true) ∧
    (sample.length = sample.reverse.length ∧ verifyChecksum sample.reverse 0x85 = true) ∧
    ([0x01, 0x02] : List Byte).Perm [0x02, 0x01] := by decide

/-- For the statements about `CSUM`, `VERIFY`, `READ`, `WRITE`, `CHKSTATE` from an idle block. -/
theorem test_witness_ready :
    base.ready ∧ base.isOpen = true ∧ loaded.ready ∧ loaded.isOpen = true ∧ 7 ≤ loaded.txLen.toNat :=
  ⟨⟨rfl, rfl⟩, rfl, ⟨rfl, rfl⟩, rfl, by decide⟩

theorem test_witness_FirstByteOutcomes :
    (running .read .decCls).seq = .decCls ∧ (Instr.rxOther 0x00).wf = true ∧ (Instr.rxOther 0xFF).wf = true := by decide

theorem test_witness_ControlFieldIsPushed :
    (running .read .decCls).seq = .decCls ∧ (running .read .decCls).rxLen.toNat < 22 ∧
    ({ running .read .decCls with rxLen := 21 } : State).rxLen.toNat < 22 ∧ (Instr.rxCtrl 0x90).wf = true ∧
    (Instr.rxCtrl 0xBC).wf = true := by decide

theorem test_witness_DecodeMicroStepsComplete :
    Inv receiving ∧ receiving.isOpen = true ∧ owner receiving.seq = .decode := ⟨receiving_inv, rfl, rfl⟩

theorem test_witness_FrameReceptionIsDecode :
    (running .read .decCtrl).runsAt .decCtrl ∧ (Instr.rxFrame 0x90 0x10 0x20 0x30 0x40 0x00 [0xAA] 0x85).wf = true ∧
    (Instr.rxFrame 0xBC 1 2 3 4 0xFF (List.replicate 16 0) 0x85).wf = true := ⟨⟨rfl, rfl, rfl⟩, by decide, by decide⟩

theorem test_witness_FrameReceptionStoresTheFrame :
    (running .read .decCtrl).seq = .decCtrl ∧ (running .read .decCtrl).isOpen = true ∧
    (Instr.rxFrame 0x90 0x10 0x20 0x30 0x40 0x00 [0xAA] 0x85).wf = true ∧
    0x85 = cs (frameBytes 0x90 0x10 0x20 0x30 0x40 0x00 [0xAA]) ∧
    0x84 ≠ cs (frameBytes 0x90 0x10 0x20 0x30 0x40 0x00 [0xAA]) := by decide

/-- A lost link, and the sample frame received. -/
theorem test_witness_ReadIsDecodeOfTheAnswers :
    (decodeAnswers [.byte 0x03, .byte 0x07]).code = .linkLost ∧
    (decodeAnswers ((sample ++ [0x85]).map .byte)).code = .none ∧
    (decodeAnswers ((sample ++ [0x85]).map .byte)).frame = sample := by decide

theorem test_witness_WhatDecodeConsumes :
    (Instr.rxOther 0x91).wf = true ∧ (sample[5]? = some 0x00 ∧ sample.length = 7 + ((0x00 : Byte) &&& 0x0F).toNat) ∧
    sample.head?.any isCtrl = true ∧ 0x85 = cs sample ∧ 0x84 ≠ cs sample ∧
    (sample.length ≤ 7 + ((0x00 : Byte) &&& 0x0F).toNat) ∧
    ((sample.take 6)[5]? = some 0x00 ∧ (sample.take 6).head?.any isCtrl = true) ∧
    ((sample.take 5).head?.any isCtrl = true ∧ (sample.take 5).length ≤ 5) ∧
    ((sample.take 1).head?.any isCtrl = true ∧ (sample.take 1).length ≤ 5) := by decide

theorem test_witness_EncodingByteByByte :
    (7 ≤ sample.length ∧ sample.length ≤ 63) ∧
    (7 ≤ (List.replicate 63 (0x11 : Byte)).length ∧ (List.replicate 63 (0x11 : Byte)).length ≤ 63) := by decide

theorem test_witness_WriteSendsTheEncoding :
    ({ loaded with txLen := 63 } : State).ready ∧ 7 ≤ ({ loaded with txLen := 63 } : State).txLen.toNat :=
  ⟨⟨rfl, rfl⟩, by decide⟩

theorem test_witness_WriteRefusesShortFrames :
    (base.ready ∧ base.txLen.toNat < 7) ∧
    (({ base with txLen := 6 } : State).ready ∧ ({ base with txLen := 6 } : State).txLen.toNat < 7) :=
  ⟨⟨⟨rfl, rfl⟩, by decide⟩, ⟨rfl, rfl⟩, by decide⟩

theorem test_witness_TransmitFrameBytes :
    (running .write .wrPfx).isOpen = true ∧ (running .write .wrPfx).seq = .wrPfx ∧ (62 : BitVec 6).toNat ≤ 62 ∧
    (running .write .wrDat).seq = .wrDat ∧ (running .write .wrEnd).seq = .wrEnd ∧ 7 ≤ (7 : BitVec 6).toNat ∧
    7 ≤ (63 : BitVec 6).toNat ∧ (running .write .wrCs).seq = .wrCs := by decide

theorem test_witness_EncodeMicroStepsComplete :
    (Inv sending ∧ owner sending.seq = .write ∧ sending.isOpen = true) ∧
    (Inv { running .write .wrChk with isOpen := false } ∧
      ({ running .write .wrChk with isOpen := false } : State).seq = .wrChk) :=
  ⟨⟨sending_inv, rfl, rfl⟩, inv_of _ (by decide) trivial, rfl⟩

theorem test_witness_EncodeThenReadGivesTheFrame :
    sample.head?.any isCtrl = true ∧ sample[5]? = some 0x00 ∧ sample.length = 7 + ((0x00 : Byte) &&& 0x0F).toNat ∧
    (∃ e, enc sample = some e ∧ ∃ s : State, s.ready ∧ s.isOpen = true ∧ s.rxStream = (strip e).map .byte ++ []) :=
  ⟨by decide, by decide, by decide, _, rfl,
    { base with rxStream := (strip ((enc sample).getD [])).map .byte ++ [] }, ⟨rfl, rfl⟩, rfl, rfl⟩

theorem test_witness_ChkstateIsOneExchange :
    nextAnswer [.byte 0x07] = (.byte 0x07, []) ∧ nextAnswer [] = (.timeout, []) ∧
    nextAnswer [.timeout, .byte 0x07] = (.timeout, [.byte 0x07]) := by decide

/-- An idle block whose device answers as `INIT` expects. -/
def answering (a : List Answer) : State := { base with rxStream := a }

theorem test_witness_ResetRetriesUntilAcknowledged :
    (answering [.timeout, .byte 0x07, .byte 0x03, .byte 0x55]).ready ∧
    (answering [.timeout, .byte 0x07, .byte 0x03, .byte 0x55]).cancel = false ∧
    (∀ a ∈ [Answer.timeout, .byte 0x07], a ≠ .byte 0x03) ∧
    (answering [.timeout, .byte 0x07, .byte 0x03, .byte 0x55]).rxStream =
      [.timeout, .byte 0x07] ++ .byte 0x03 :: [.byte 0x55] := ⟨⟨rfl, rfl⟩, by decide⟩

theorem test_witness_SetaddrAssignsTheAddress :
    ∃ s : State, s.ready ∧ s.isOpen = true ∧ s.cancel = false ∧
      s.rxStream =
        [.byte (hiByte s.siaEcho1), .byte (loByte s.siaEcho1), .byte (hiByte s.siaEcho2), .byte (loByte s.siaEcho2)] :=
  ⟨answering [.byte 0x1A, .byte 0x00, .byte 0x1A, .byte 0x01], ⟨rfl, rfl⟩, by decide⟩

theorem test_witness_SetaddrRetriesAWrongFirstEcho :
    (running .setaddr .siaTop).runsAt .siaTop ∧ (running .setaddr .siaTop).isOpen = true ∧
    (running .setaddr .siaTop).cancel = false ∧
    (readBytes 2 [] = (none, []) ∧ readBytes 2 [.byte 0x1A, .timeout] = (none, []) ∧
      readBytes 2 [.byte 0x1A, .byte 0x01] = (some [0x1A, 0x01], [])) ∧
    some [(0x1A : Byte), 0x01] ≠ some [hiByte base.siaEcho1, loByte base.siaEcho1] := ⟨⟨rfl, rfl, rfl⟩, by decide⟩

theorem test_witness_SetaddrRetriesAWrongSecondEcho :
    ∀ a ∈ [[], [Answer.byte 0x1A, .timeout], [.byte 0x1A, .byte 0x00]],
      ∃ s : State, s.runsAt .siaTop ∧ s.isOpen = true ∧ s.cancel = false ∧
        s.rxStream = .byte (hiByte s.siaEcho1) :: .byte (loByte s.siaEcho1) :: a ∧
        (readBytes 2 a).1 ≠ some [hiByte s.siaEcho2, loByte s.siaEcho2] := by
  intro a ha
  refine ⟨{ running .setaddr .siaTop with
    rxStream := .byte (hiByte base.siaEcho1) :: .byte (loByte base.siaEcho1) :: a }, ⟨rfl, rfl, rfl⟩, rfl, rfl, rfl, ?_⟩
  revert a; decide

theorem test_witness_InitBringsTheLinkUp :
    ∃ s : State, s.ready ∧ s.isOpen = true ∧ s.cancel = false ∧
      s.rxStream = [.byte 0x03, .byte (hiByte s.siaEcho1), .byte (loByte s.siaEcho1), .byte (hiByte s.siaEcho2),
        .byte (loByte s.siaEcho2), .byte 0x07] :=
  ⟨answering [.byte 0x03, .byte 0x1A, .byte 0x00, .byte 0x1A, .byte 0x01, .byte 0x07], ⟨rfl, rfl⟩, by decide⟩

theorem test_witness_InitOnAClosedTransport :
    ({ base with isOpen := false, cancel := true } : State).ready ∧
    ({ base with isOpen := false, cancel := true } : State).isOpen = false := ⟨⟨rfl, rfl⟩, rfl⟩

theorem test_witness_InitRetriesFromReset :
    ((running .init .chkEnd).runsAt .chkEnd ∧ (running .init .chkEnd).curOp = .init ∧
      (running .init .chkEnd).rxTimeout = false ∧ (running .init .chkEnd).rxb ≠ 0x07 ∧
      ({ running .init .chkEnd with rxTimeout := true, rxb := 0x07 } : State).runsAt .chkEnd) ∧
    (running .init .iniEnd).runsAt .iniEnd ∧ (running .init .iniEnd).curOp = .init ∧
    (running .init .iniEnd).retOk = false ∧ (running .init .iniEnd).cancel = false :=
  ⟨⟨⟨rfl, rfl, rfl⟩, rfl, rfl, by decide, ⟨rfl, rfl, rfl⟩⟩, ⟨rfl, rfl, rfl⟩, by decide⟩

theorem test_witness_CancelEndsTheLoops :
    ∀ p ∈ [(HostOp.reset, Label.rstTop), (.setaddr, .siaTop), (.init, .iniTop), (.init, .rstTop), (.init, .siaTop)],
      ∃ s : State, s.busy = true ∧ s.moves = [] ∧ s.cancel = true ∧ s.seq = p.2 ∧ s.curOp = p.1 :=
  fun p _ => ⟨{ running p.1 p.2 with cancel := true }, rfl, rfl, rfl, rfl, rfl⟩

theorem test_witness_HandshakeResponses :
    (∀ p ∈ [(HostOp.reset, Label.rstCmp), (.init, .rstCmp), (.chkstate, .chkEnd), (.init, .chkEnd), (.read, .chkEnd),
        (.setaddr, .sia2c), (.setaddr, .sia6c), (.init, .sia6c)],
      ∃ s : State, Inv { s with moves := [] } ∧ s.seq = p.2 ∧ s.curOp = p.1) ∧ (0x1A00 : Pair) ≠ base.siaEcho2 := by
  refine ⟨fun p hp => ⟨running p.1 p.2, inv_of _ ?_ ?_, rfl, rfl⟩, by decide⟩ <;>
    (simp only [List.mem_cons, List.not_mem_nil, or_false] at hp
     rcases hp with rfl | rfl | rfl | rfl | rfl | rfl | rfl | rfl <;> first | decide | trivial | exact fun _ => ⟨rfl, rfl⟩)

theorem test_witness_CommandAndValueBytes :
    ∀ l ∈ [Label.rstTx, .sia1a, .sia5a, .sia2a, .sia6a, .sia3a, .sia4a, .sia1b, .sia3b, .sia4b, .sia5b],
      ∃ s : State, s.isOpen = true ∧ s.seq = l := fun l _ => ⟨running .setaddr l, rfl, rfl⟩

theorem test_witness_StateRequestByte : ∃ s : State, s.isOpen = true ∧ s.seq = .chkTx := ⟨running .chkstate .chkTx, rfl, rfl⟩

theorem test_witness_FlushDiscardsFromTheFront : (running .setaddr .siaFail).isOpen = true := rfl

theorem test_witness_EveryStepKeepsTheInvariant : Inv receiving ∧ ∃ t, step receiving = .next t := ⟨receiving_inv, _, rfl⟩

theorem test_witness_EveryStepKeepsTheFrameInvariant :
    (Inv receiving ∧ FrameInv receiving ∧ ∃ t, step receiving = .next t) ∧
    (Inv sending ∧ FrameInv sending ∧ ∃ t, step sending = .next t) :=
  ⟨⟨receiving_inv, by unfold FrameInv receiving running; decide, _, rfl⟩,
   ⟨sending_inv, by unfold FrameInv sending loaded; decide, _, rfl⟩⟩

theorem test_witness_NoStepFaults : Inv base := base_inv

theorem test_witness_EveryStepCompletesOnAnOpenTransport : Inv sending ∧ sending.isOpen = true := ⟨sending_inv, rfl⟩

/-- A step at every row of R163, and one at no row. -/
theorem test_witness_LinkStateFollowsItsTable :
    ∀ s ∈ [{ base with moves := [.hwReset] }, { base with moves := [.opStart 0x4] }, { base with moves := [.opStart 0x5] },
        running .init .iniRst, running .init .iniSia, { running .reset .rstCmp with rxb := 0x03 },
        { running .setaddr .sia6c with echo := 0x1A01 }, running .read .chkTx, { running .init .chkEnd with rxb := 0x07 },
        running .read .rdEnd],
      ∃ t, step s = .next t := by
  intro s hs
  simp only [List.mem_cons, List.not_mem_nil, or_false] at hs
  rcases hs with rfl | rfl | rfl | rfl | rfl | rfl | rfl | rfl | rfl | rfl <;> exact ⟨_, rfl⟩

theorem test_witness_LinkStateGatesNothing :
    forgetLink (running .read .chkTx) =
      forgetLink { running .read .chkTx with linkState := .ready, events := [.state .ready] } := by decide

theorem test_witness_CancelIsReadAtThreeLabelsOnly :
    (readsCancel (running .read .chkTx).seq = false ∧
      forgetCancel (running .read .chkTx) = forgetCancel { running .read .chkTx with cancel := true }) ∧
    (engineNext (running .read .chkTx).moves = true ∧ ∃ t, step (running .read .chkTx) = .next t) :=
  ⟨by decide, rfl, _, rfl⟩

theorem test_witness_OperandsAreFrozenWhileBusy :
    ∃ s t : State, s.busy = true ∧ resetNext s.moves = false ∧ step s = .next t ∧ s.moves = [.writeTxb 0 0x55] :=
  ⟨{ sending with moves := [.writeTxb 0 0x55] }, sending, rfl, rfl, rfl, rfl⟩

theorem test_witness_HostWritesTakeEffectWhileIdle :
    ({ base with moves := [.writeTxb 0 0x55] } : State).moves = .writeTxb 0 0x55 :: [] ∧
    ({ base with moves := [.writeTxb 62 0x55] } : State).moves = .writeTxb 62 0x55 :: [] ∧
    ({ sending with moves := [.writeTxLen 63] } : State).moves = .writeTxLen 63 :: [] ∧
    ({ sending with moves := [.writeChkIn 0xFF] } : State).moves = .writeChkIn 0xFF :: [] ∧
    ∀ m ∈ [HostMove.setCancel true, .strapIa 0xFFFF, .setOpen false, .answer .timeout, .flushChoice 2],
      ({ sending with moves := [m] } : State).moves = m :: [] := ⟨rfl, rfl, rfl, rfl, fun _ _ => rfl⟩

theorem test_witness_LoadPutsTheFrame :
    (List.replicate 63 (0x11 : Byte)).length ≤ 63 ∧ 63 < (List.replicate 64 (0x11 : Byte)).length ∧
    (∃ ms, (HostLine.load sample).moves = some ms ∧
      ∃ s : State, s.busy = false ∧ s.moves = ms ++ []) :=
  ⟨by decide, by decide, _, rfl, { base with moves := ((HostLine.load sample).moves.getD []) ++ [] }, rfl, rfl⟩

theorem test_witness_IaIsConstantBetweenResets :
    (∃ t, step { base with moves := [.hwReset] } = .next t) ∧ ∃ t, step (running .setaddr .sia3b) = .next t :=
  ⟨⟨_, rfl⟩, _, rfl⟩

theorem test_witness_EventsRecordTheTxStream :
    resetNext sending.moves = false ∧ ∃ t, step sending = .next t := ⟨rfl, _, rfl⟩

theorem test_witness_ResultsAreWrittenByFinish :
    (resetNext (running .read .rdEnd).moves = false ∧ ∃ t, step (running .read .rdEnd) = .next t) ∧
    (∃ t, step { base with moves := [.opStart 0xF] } = .next t) := ⟨⟨rfl, _, rfl⟩, _, rfl⟩

theorem test_witness_PolarityIsWrittenByConfirmations :
    ∀ b ∈ [(0x8B : Byte), 0x0B, 0x03],
      resetNext ({ running .read .decCls with rxb := b } : State).moves = false ∧
      ∃ t, step { running .read .decCls with rxb := b } = .next t := by
  intro b hb
  simp only [List.mem_cons, List.not_mem_nil, or_false] at hb
  rcases hb with rfl | rfl | rfl <;> exact ⟨rfl, _, rfl⟩

theorem test_witness_ReceiveBufferIsWrittenByPush :
    resetNext receiving.moves = false ∧
    after (step receiving) (fun t => decide (owner receiving.seq = .decode ∧ t.seq = .rdSw ∧ t.retOk = false)) =
      some false := by decide

theorem test_witness_HardwareResetAtAnyTime : ∃ (s : State) (r : List HostMove), s.moves = .hwReset :: r ∧ s.busy = true :=
  ⟨{ sending with moves := [.hwReset, .opStart 0x6] }, [.opStart 0x6], rfl, rfl⟩

theorem test_witness_OffPositionIsRefused :
    (labelsOf .decode = some [.decCtrl, .decCls, .decAddr, .decLen, .decPay, .decChk, .decVfy] ∧
      base.seq ∉ [Label.decCtrl, .decCls, .decAddr, .decLen, .decPay, .decChk, .decVfy]) ∧
    (labelsOf (.txValue 0x12) = some [.sia1b, .sia3b, .sia4b, .sia5b] ∧
      (running .write .wrDat).seq ∉ [Label.sia1b, .sia3b, .sia4b, .sia5b]) := by decide

theorem test_witness_ClosedTransportIsRefused :
    (Inv { sending with isOpen := false } ∧ needsTransport ({ sending with isOpen := false } : State).seq = true) ∧
    (Inv { running .setaddr .sia5c with isOpen := false } ∧
      needsTransport ({ running .setaddr .sia5c with isOpen := false } : State).seq = false) :=
  ⟨⟨inv_of _ (by decide) (by unfold labelFacts sending loaded; decide), rfl⟩, inv_of _ (by decide) trivial, rfl⟩

end Sys2Proof.Tests
end

section
/-! PROOFS. R25: the start of an operation. On an idle block the code decides, and the three kinds of codes exclude each other:
0, the codes of the defined operations (1 to 8) and the reserved ones (9 to 15). -/

namespace Sys2Proof.Machine

variable {s : State}

/-! ## The codes of the operations -/

/-- R80: the codes of the operations are below the reserved ones. -/
theorem HostOp.code_lt_nine (op : HostOp) : op.code.toNat < 9 := by
  cases op <;> decide

/-- R80: the codes number the operations in their order. -/
theorem HostOp.ofNat_code (op : HostOp) : HostOp.ofNat op.code.toNat = op := by
  cases op <;> rfl

/-- R80: an operation is told by its code. -/
theorem HostOp.eq_of_code_eq {op op' : HostOp} (h : op.code = op'.code) : op = op' := by
  rw [← op.ofNat_code, h, op'.ofNat_code]

/-- R25: code 0 on an idle block. -/
theorem exec_opCode_zero (s : State) : exec (decodeOpCode 0) s = .next s := rfl

/-- R95: a reserved code on an idle block. -/
theorem exec_opCode_reserved {c : BitVec 4} (hb : s.busy = false) (hc : 9 ≤ c.toNat) :
    exec (decodeOpCode c) s = .next (rejectCode c s) := by
  rcases exec_opCode c hb with ⟨rfl, -⟩ | ⟨op, -, rfl, -⟩ | ⟨-, he⟩
  · simp at hc
  · exact absurd op.code_lt_nine (by omega)
  · exact he

/-- R25: the code of a defined operation on an idle block. -/
theorem exec_opCode_defined {op : HostOp} (hb : s.busy = false) (hop : op ≠ .nop) :
    exec (decodeOpCode op.code) s = .next (startOp op s) := by
  rcases exec_opCode op.code hb with ⟨hzero, -⟩ | ⟨op', -, hcode, he⟩ | ⟨hc, -⟩
  · exact absurd (HostOp.eq_of_code_eq (op' := .nop) hzero) hop
  · rw [he, HostOp.eq_of_code_eq hcode]
  · exact absurd op.code_lt_nine (by omega)

/-! ## The pulse of `op_start` -/

/-- R25: while an operation runs the step only takes the pulse. -/
theorem step_opStart_busy {c : BitVec 4} {r : List HostMove} (hm : s.moves = .opStart c :: r) (hb : s.busy = true) :
    step s = .next { s with moves := r } := by
  simp [step_eq, turn, hm, hostTurn, hb, Turn.result]

/-- R25: on an idle block the step runs the instruction of the code. -/
theorem step_opStart_idle {c : BitVec 4} {r : List HostMove} (hm : s.moves = .opStart c :: r) (hb : s.busy = false) :
    step s = exec (decodeOpCode c) { s with moves := r } := by
  simp [step_eq, turn, hm, hostTurn, hb, Turn.result]

/-- Settles O7: the code on an idle block is of one of the three kinds of `exec_opCode`, each a whole state. -/
theorem startOfAnOperation : Obligations.StartOfAnOperation := by
  intro s c r hm
  refine ⟨step_opStart_busy hm, fun hb => ?_⟩
  rw [step_opStart_idle hm hb]
  refine ⟨?zero, fun hc => ?reserved, ?defined⟩
  case zero => rintro rfl; exact exec_opCode_zero _
  case reserved => rw [exec_opCode_reserved (by exact hb) hc, rejectCode_record]
  case defined =>
    rintro op hop rfl
    rw [exec_opCode_defined (by exact hb) hop, startOp_record]

end Sys2Proof.Machine
end

section
/-! PROOFS. R38: `conf_pol` is written at `DEC_CLS` only, by the two confirmations, and by no other agent but a hardware
reset. -/

namespace Sys2Proof.Machine

variable {s t : State}

/-- R85: the one byte of the class of positive confirmations. -/
theorem classify_eq_confPos_iff (b : Byte) : classify b = .confPos ↔ b = 0x8B := by
  revert b; decide

/-- R85: the one byte of the class of negative confirmations. -/
theorem classify_eq_confNeg_iff (b : Byte) : classify b = .confNeg ↔ b = 0x0B := by
  revert b; decide

/-- R38: `conf_pol` after the byte `b` is classified. -/
def polarityAfter (b : Byte) (p : Bool) : Bool :=
  if b = 0x8B then true else if b = 0x0B then false else p

/-- R38: a positive confirmation reports 1. -/
theorem polarityAfter_confPos {b : Byte} {p : Bool} (h : classify b = .confPos) : polarityAfter b p = true := by
  simp [polarityAfter, (classify_eq_confPos_iff b).mp h]

/-- R38: a negative confirmation reports 0. -/
theorem polarityAfter_confNeg {b : Byte} {p : Bool} (h : classify b = .confNeg) : polarityAfter b p = false := by
  simp [polarityAfter, (classify_eq_confNeg_iff b).mp h]

/-- R38: a byte of any other class reports no polarity. -/
theorem polarityAfter_of_no_confirmation {b : Byte} {p : Bool} (hpos : classify b ≠ .confPos)
    (hneg : classify b ≠ .confNeg) : polarityAfter b p = p := by
  rw [Ne, classify_eq_confPos_iff] at hpos
  rw [Ne, classify_eq_confNeg_iff] at hneg
  rw [polarityAfter, if_neg hpos, if_neg hneg]

/-- R38, R122: `DEC_CLS` writes `conf_pol` for the two confirmations and keeps it for the other classes. -/
theorem Micro.confPol_decCls (h : Micro s t) (hl : s.seq = .decCls) : t.confPol = polarityAfter s.rxb s.confPol := by
  cases h with
  | decClsPos _ hc => simp [polarityAfter_confPos hc]
  | decClsNeg _ hc => simp [polarityAfter_confNeg hc]
  | decClsLost _ hc => simp [polarityAfter_of_no_confirmation (b := s.rxb), hc]
  | decClsOther _ hc => simp [polarityAfter_of_no_confirmation (b := s.rxb), hc]
  | decClsCtrl b _ hb hc => subst hb; simp [polarityAfter_of_no_confirmation (b := s.rxb), hc]
  | _ => simp_all -- the lines of the other labels, against `hl`

/-- R38: every other line keeps `conf_pol`. -/
theorem Micro.confPol_of_ne_decCls (h : Micro s t) (hl : s.seq ≠ .decCls) : t.confPol = s.confPol := by
  cases h with
  | decClsPos hl' => exact absurd hl' hl
  | decClsNeg hl' => exact absurd hl' hl
  | _ => simp

/-- R38: no move of the host, the platform or the transport but a hardware reset writes `conf_pol`. -/
theorem HostStep.confPol_eq {x : HostMove} (h : HostStep s x t) (hx : x ≠ .hwReset) : t.confPol = s.confPol := by
  cases h with
  | hwReset => exact absurd rfl hx
  | _ => rfl

/-- Settles O53: the engine at `DEC_CLS` writes `conf_pol` as `polarityAfter` says, and every other step but a hardware reset
keeps it. -/
theorem polarityIsWrittenByConfirmations : Obligations.PolarityIsWrittenByConfirmations := by
  intro s t hr hs
  rcases next_cases hs with ⟨he, hb, m, -, h⟩ | ⟨-, hb, m, -, rfl⟩ | ⟨he, x, m, hm, h⟩
  · by_cases hl : s.seq = .decCls
    · simpa [he, hb, hl, polarityAfter] using h.confPol_decCls hl
    · simpa [hl] using h.confPol_of_ne_decCls hl
  · simp [hb]
  · have hx : x ≠ .hwReset := by rintro rfl; simp [hm, resetNext] at hr
    simpa [he] using h.confPol_eq hx

end Sys2Proof.Machine
end

section
/-! PROOFS. R95: `NOP` and the reserved codes do not start an operation. -/

namespace Sys2Proof.Machine

variable {s : State}

/-- R80: the seven instructions of the reserved codes, each with its code. -/
def reservedInstrs : List (Instr × BitVec 4) :=
  [(.reserved9, 0x9), (.reservedA, 0xA), (.reservedB, 0xB), (.reservedC, 0xC), (.reservedD, 0xD), (.reservedE, 0xE),
    (.reservedF, 0xF)]

/-- R80: they are what the decoder gives for the codes from 9 on. -/
theorem decodeOpCode_of_mem_reservedInstrs : ∀ p ∈ reservedInstrs, decodeOpCode p.2 = p.1 ∧ 9 ≤ p.2.toNat := by
  decide

/-- R95: each of them on an idle block rejects its code. -/
theorem exec_of_mem_reservedInstrs {p : Instr × BitVec 4} (hb : s.busy = false) (hp : p ∈ reservedInstrs) :
    exec p.1 s = .next (rejectCode p.2 s) := by
  obtain ⟨hdecode, hcode⟩ := decodeOpCode_of_mem_reservedInstrs p hp
  rw [← hdecode, exec_opCode_reserved hb hcode]

/-- Settles O8: `NOP` is the instruction of code 0, and the reserved instructions are those of the codes from 9 on, whose
rejection is known as a whole state. -/
theorem nopAndReservedCodes : Obligations.NopAndReservedCodes := by
  refine ⟨exec_opCode_zero, fun s p hb hp => ?_⟩
  rw [exec_of_mem_reservedInstrs hb hp, rejectCode_record]

end Sys2Proof.Machine
end

section
/-! PROOFS. R110, R111, R112, R116: the checksum. It is an XOR, so the order of the bytes does not matter and each bit
position is a parity of its own. A frame with its checksum byte verifies when the checksum of both together is 0x00, so an
error goes undetected exactly when it keeps that checksum. -/

namespace Sys2Proof.Machine

variable {s : State}

/-! ## The checksum of a byte sequence -/

/-- R110: the empty sequence. -/
@[simp] theorem cs_nil : cs [] = 0xFF := rfl

/-- R110: one byte more at the end. -/
@[simp] theorem cs_concat (f : List Byte) (b : Byte) : cs (f ++ [b]) = cs f ^^^ b := by
  simp [cs]

/-- XOR with one byte and with another may be exchanged. -/
theorem xor_rightCommutative : RightCommutative (fun a b : Byte => a ^^^ b) :=
  ⟨fun a b c => by simp only [BitVec.xor_assoc, BitVec.xor_comm b c]⟩

/-- R116: the order of the bytes does not matter. -/
theorem cs_perm {f g : List Byte} (h : f.Perm g) : cs f = cs g :=
  h.foldl_eq (rcomm := xor_rightCommutative) csSeed

/-- R110: one byte more at the front. -/
theorem cs_cons (b : Byte) (f : List Byte) : cs (b :: f) = cs f ^^^ b := by
  rw [← cs_concat, cs_perm (List.perm_append_singleton b f).symm]

/-- R116: a byte 0x00 anywhere does not count. -/
theorem cs_insert_zero (f g : List Byte) : cs (f ++ 0x00 :: g) = cs (f ++ g) := by
  rw [cs_perm List.perm_middle, cs_cons]
  exact BitVec.xor_zero

/-- R110: a byte put in the place of another counts instead of it. -/
theorem cs_set {f : List Byte} {i : Nat} (h : i < f.length) (b : Byte) : cs (f.set i b) = cs f ^^^ f[i] ^^^ b := by
  have hset : cs (f.set i b) = cs (f.eraseIdx i) ^^^ b := by
    rw [cs_perm (List.set_perm_cons_eraseIdx h b), cs_cons]
  have hself : cs f = cs (f.eraseIdx i) ^^^ f[i] := by
    rw [← cs_perm (List.getElem_cons_eraseIdx_perm h), cs_cons]
  rw [hset, hself, BitVec.xor_assoc _ f[i] f[i], BitVec.xor_self, BitVec.xor_zero]

/-- R116: flips in one byte of the sequence are flips of its checksum. -/
theorem cs_set_flip {f : List Byte} {i : Nat} (h : i < f.length) (x : Byte) : cs (f.set i (f[i] ^^^ x)) = cs f ^^^ x := by
  rw [cs_set h, BitVec.xor_assoc, ← BitVec.xor_assoc f[i], BitVec.xor_self, BitVec.zero_xor]

/-! ## Bit by bit -/

/-- R110: each bit of the checksum is told by the parity of that bit over the bytes. -/
theorem getLsbD_cs_iff (f : List Byte) {k : Nat} (hk : k < 8) :
    (cs f).getLsbD k = true ↔ Even (f.countP fun b => b.getLsbD k) := by
  induction f with
  | nil => simpa using (by decide : ∀ k < 8, (0xFF : Byte).getLsbD k = true) k hk
  | cons b f ih =>
    rw [cs_cons, BitVec.getLsbD_xor, List.countP_cons, Nat.even_add, ← ih]
    cases (cs f).getLsbD k <;> cases b.getLsbD k <;> simp

/-- R116: in how many bytes two sequences differ at bit `k`. -/
def flipsAt (k : Nat) (f g : List Byte) : Nat :=
  (f.zip g).countP fun p => p.1.getLsbD k != p.2.getLsbD k

/-- R116: the flips of one byte more at the front. -/
theorem flipsAt_cons (k : Nat) (a b : Byte) (f g : List Byte) :
    flipsAt k (a :: f) (b :: g) = flipsAt k f g + (a.getLsbD k != b.getLsbD k).toNat := by
  simp [flipsAt, List.countP_cons, Bool.toNat, Bool.cond_eq_ite]

/-- R116: the flips of one byte more at the end. -/
theorem flipsAt_concat (k : Nat) {f g : List Byte} (h : f.length = g.length) (a b : Byte) :
    flipsAt k (f ++ [a]) (g ++ [b]) = flipsAt k f g + (a.getLsbD k != b.getLsbD k).toNat := by
  simp [flipsAt, List.zip_append h, List.countP_append, List.countP_singleton, Bool.toNat, Bool.cond_eq_ite]

/-- Two bits differ an even number of times, none, when they are equal. -/
theorem even_toNat_bne_iff : ∀ a b : Bool, Even (a != b).toNat ↔ a = b := by
  decide

/-- Two bits changed by two others: equal bits stay equal, and different ones different, exactly under equal changes. -/
theorem xor_eq_xor_iff : ∀ x y a b : Bool, ((x ^^ a) = (y ^^ b)) ↔ (x = y ↔ a = b) := by
  decide

/-- R116: an even number of flips keeps the bit of the checksum, an odd number does not. -/
theorem even_flipsAt_iff (k : Nat) : ∀ {f g : List Byte}, f.length = g.length →
    (Even (flipsAt k f g) ↔ (cs f).getLsbD k = (cs g).getLsbD k)
  | [], [], _ => by simp [flipsAt]
  | a :: f, b :: g, h => by
    rw [flipsAt_cons, Nat.even_add, even_flipsAt_iff k (by simpa using h), even_toNat_bne_iff, cs_cons, cs_cons,
      BitVec.getLsbD_xor, BitVec.getLsbD_xor, xor_eq_xor_iff]

/-- R116: two sequences of one length have one checksum exactly when every bit position has an even number of flips. -/
theorem cs_eq_cs_iff_even_flipsAt {f g : List Byte} (h : f.length = g.length) :
    cs f = cs g ↔ ∀ k < 8, Even (flipsAt k f g) := by
  simp only [even_flipsAt_iff _ h]
  exact ⟨fun heq k _ => by rw [heq], fun hbits => BitVec.eq_of_getLsbD_eq hbits⟩

/-! ## `VerifyChecksum` -/

/-- R114: the verdict is on the checksum of frame and checksum byte together. -/
theorem verifyChecksum_iff_cs_concat (f : List Byte) (c : Byte) : verifyChecksum f c = true ↔ cs (f ++ [c]) = 0x00 := by
  rw [cs_concat, verifyChecksum, beq_iff_eq]

/-- R114: the one byte that verifies is the checksum. -/
theorem verifyChecksum_iff (f : List Byte) (c : Byte) : verifyChecksum f c = true ↔ c = cs f := by
  rw [verifyChecksum, beq_iff_eq]
  exact BitVec.xor_eq_zero_iff.trans eq_comm

/-- R116: an error pattern goes undetected exactly when every bit position has an even number of flips over frame and
checksum. -/
theorem verifyChecksum_iff_even_flipsAt {f g : List Byte} {c : Byte} (d : Byte) (h : f.length = g.length)
    (hv : verifyChecksum f c = true) : verifyChecksum g d = true ↔ ∀ k < 8, Even (flipsAt k (f ++ [c]) (g ++ [d])) := by
  rw [verifyChecksum_iff_cs_concat] at hv ⊢
  rw [← cs_eq_cs_iff_even_flipsAt (by simpa using h), hv, eq_comm]

/-- R116: a pattern that is not empty, in one byte, changes that byte. -/
theorem xor_ne_self {b x : Byte} (hx : x ≠ 0) : b ^^^ x ≠ b := by
  simpa using hx

/-- A single bit of a byte. -/
theorem oneBit_ne_zero {k : Nat} (hk : k < 8) : (1 <<< k : Byte) ≠ 0 :=
  (by decide : ∀ k < 8, (1 <<< k : Byte) ≠ 0) k hk

/-- R116: flips in one byte of the frame are detected. -/
theorem verifyChecksum_set_flip {f : List Byte} {c x : Byte} {i : Nat} (h : i < f.length) (hx : x ≠ 0)
    (hv : verifyChecksum f c = true) : verifyChecksum (f.set i (f[i] ^^^ x)) c = false := by
  rw [verifyChecksum_iff] at hv
  rw [Bool.eq_false_iff, Ne, verifyChecksum_iff, cs_set_flip h, hv]
  exact (xor_ne_self hx).symm

/-- R116: flips in the checksum byte are detected. -/
theorem verifyChecksum_flip {f : List Byte} {c x : Byte} (hx : x ≠ 0) (hv : verifyChecksum f c = true) :
    verifyChecksum f (c ^^^ x) = false := by
  rw [verifyChecksum_iff] at hv
  rw [Bool.eq_false_iff, Ne, verifyChecksum_iff, hv]
  exact xor_ne_self hx

/-! ## The micro-operations -/

/-- R112: bytes absorbed one after another. -/
theorem execAll_map_csAbsorb (f : List Byte) (s : State) :
    execAll (f.map .csAbsorb) s = .next { s with acc := f.foldl (fun a b => a ^^^ b) s.acc } := by
  induction f generalizing s with
  | nil => rfl
  | cons b f ih => exact ih (csAbsorb b s)

/-- R111, R112: `CsInit` and then the bytes of `f`. -/
theorem execAll_csInit_map_csAbsorb (f : List Byte) (s : State) :
    execAll (.csInit :: f.map .csAbsorb) s = .next { s with acc := cs f } :=
  execAll_map_csAbsorb f (csInit s)

/-! ## The statements -/

/-- Settles O9: the checksum is a fold, and bit by bit a parity (`getLsbD_cs_iff`). -/
theorem checksumIsTheXorFold : Obligations.ChecksumIsTheXorFold :=
  ⟨cs_nil, cs_concat, fun f _ hk => getLsbD_cs_iff f hk⟩

/-- Settles O10: the bytes absorbed in their order fold to their checksum, and the checksum does not see the order. -/
theorem csInitAndAbsorbInAnyOrder : Obligations.CsInitAndAbsorbInAnyOrder := by
  refine ⟨fun s => rfl, fun s b => rfl, fun s f g hp => ?_⟩
  rw [execAll_csInit_map_csAbsorb, cs_perm hp]

/-- Settles O11: a frame verifies with its checksum and no other byte, and an error is detected exactly when it changes the
checksum of frame and checksum byte together. -/
theorem whatTheChecksumDetects : Obligations.WhatTheChecksumDetects := by
  refine ⟨?roundTrip, ?singleBit, ?criterion, ?reordering, ?insertion, ?unique⟩
  case roundTrip => exact fun f => (verifyChecksum_iff f _).mpr rfl
  case singleBit =>
    exact fun f c i k h hk hv =>
      ⟨verifyChecksum_set_flip h (oneBit_ne_zero hk) hv, verifyChecksum_flip (oneBit_ne_zero hk) hv⟩
  case criterion =>
    intro f g c d h hv
    rw [verifyChecksum_iff_even_flipsAt d h hv]
    simp only [flipsAt_concat _ h]
    rfl
  case reordering => exact fun f g c hp => by rw [verifyChecksum, verifyChecksum, cs_perm hp]
  case insertion => exact fun f g c => by rw [verifyChecksum, verifyChecksum, cs_insert_zero]
  case unique => exact fun f => ⟨cs f, verifyChecksum_iff f⟩

end Sys2Proof.Machine
end

section
/-! PROOFS. R113, R114: `CSUM` and `VERIFY` from start to end. Both fold the frame to transmit by the same two lines, under
labels of their own, and differ in what they finish with. -/

namespace Sys2Proof.Machine

variable {s t : State}

/-! ## Runs of several steps -/

/-- A run of no steps. -/
@[simp] theorem steps_zero (s : State) : steps 0 s = .next s := rfl

/-- A run goes on from the state after its first step. -/
theorem steps_succ (h : step s = .next t) (k : Nat) : steps (k + 1) s = steps k t := by
  simp [steps, h]

/-- A run goes on from the state after its first `m` steps. -/
theorem steps_add {m : Nat} (h : steps m s = .next t) (n : Nat) : steps (m + n) s = steps n t := by
  induction m generalizing s with
  | zero => cases h; rw [Nat.zero_add]
  | succ m ih =>
    rw [Nat.succ_add]
    cases hs : step s with
    | next u => rw [steps_succ hs] at h ⊢; exact ih h
    | fault f => simp [steps, hs] at h
    | refused r => simp [steps, hs] at h

/-! ## The fold over the frame to transmit -/

/-- R50: one byte more of `TXB`. -/
theorem txbytes_succ (s : State) (n : Nat) : s.txbytes (n + 1) = s.txbytes n ++ [s.txbByte n] := by
  simp [State.txbytes, List.range_succ]

/-- R113: every index below `tx_len` is inside `TXB`. -/
theorem idx_lt_txMax_of_lt_txLen (h : s.idx.toNat < s.txLen.toNat) : s.idx.toNat < txMax := by
  have := s.txLen.isLt
  simp only [txMax]; omega

/-- R113, R114: the loop line while a byte is left. -/
theorem foldLoop_more (loop done : Label) (h : s.idx.toNat < s.txLen.toNat) :
    foldLoop loop done s =
      .next { s with seq := loop, acc := s.acc ^^^ s.txbByte s.idx.toNat, idx := s.idx + 1 } := by
  simp [foldLoop, moreToSend, h, readTxb_ok (idx_lt_txMax_of_lt_txLen h), orFault, goto, csAbsorb]

/-- R113, R114: the loop line when every byte is absorbed. -/
theorem foldLoop_done (loop done : Label) (h : s.idx = s.txLen) :
    foldLoop loop done s = .next { s with seq := done } := by
  simp [foldLoop, moreToSend, h, goto]

/-- R113, R114: the labels `ini` and `loop` perform the fold over the frame to transmit and leave it for `done`. -/
structure FoldsTxFrame (ini loop done : Label) : Prop where
  init_line : ∀ s : State, s.seq = ini → microLine s = foldInit loop s
  loop_line : ∀ s : State, s.seq = loop → microLine s = foldLoop loop done s

/-- R113: so do the labels of `CSUM`. -/
theorem csum_foldsTxFrame : FoldsTxFrame (firstLabel .csum) .csuLoop .csuEnd :=
  ⟨fun s h => by rw [microLine, h]; rfl, fun s h => by rw [microLine, h]; rfl⟩

/-- R114: so do the labels of `VERIFY`. -/
theorem verify_foldsTxFrame : FoldsTxFrame (firstLabel .verify) .verLoop .verEnd :=
  ⟨fun s h => by rw [microLine, h]; rfl, fun s h => by rw [microLine, h]; rfl⟩

/-- R113, R114: a step at the loop label is the loop line. -/
theorem FoldsTxFrame.step_loop {ini loop done : Label} (hf : FoldsTxFrame ini loop done) (hr : s.runsAt loop) :
    step s = foldLoop loop done s := by
  obtain ⟨hb, hm, hl⟩ := hr
  rw [step_engine hm hb, hf.loop_line s hl]

/-- R113, R114: the loop, from any index with the bytes below it absorbed, to the end of the frame. -/
theorem FoldsTxFrame.steps_loop {ini loop done : Label} (hf : FoldsTxFrame ini loop done) (n : Nat) {s : State}
    (hr : s.runsAt loop) (hacc : s.acc = cs (s.txbytes s.idx.toNat)) (hn : s.idx.toNat + n = s.txLen.toNat) :
    steps (n + 1) s = .next { s with seq := done, idx := s.txLen, acc := cs s.txFrame } := by
  induction n generalizing s with
  | zero =>
    have hidx : s.idx = s.txLen := BitVec.eq_of_toNat_eq hn
    rw [steps_succ ((hf.step_loop hr).trans (foldLoop_done loop done hidx)), steps_zero, State.txFrame, ← hidx, ← hacc]
  | succ n ih =>
    have ⟨hb, hm, _⟩ := hr
    have hlt : s.idx.toNat < s.txLen.toNat := by omega
    have hidx : (s.idx + 1).toNat = s.idx.toNat + 1 := by bv_omega
    rw [steps_succ ((hf.step_loop hr).trans (foldLoop_more loop done hlt))]
    refine ih ⟨hb, hm, rfl⟩ ?acc ?left
    case acc =>
      calc s.acc ^^^ s.txbByte s.idx.toNat
          = cs (s.txbytes s.idx.toNat ++ [s.txbByte s.idx.toNat]) := by rw [cs_concat, hacc]
        _ = cs (s.txbytes (s.idx + 1).toNat) := by rw [hidx, txbytes_succ]
    case left => simp only [hidx]; omega

/-- R113, R114: the whole fold, from its first line: the checksum of the frame to transmit in `acc`. -/
theorem FoldsTxFrame.steps_fold {ini loop done : Label} (hf : FoldsTxFrame ini loop done) (hr : s.runsAt ini) :
    steps (s.txLen.toNat + 2) s = .next { s with seq := done, idx := s.txLen, acc := cs s.txFrame } := by
  obtain ⟨hb, hm, hl⟩ := hr
  have hinit : step s = .next { s with seq := loop, acc := csSeed, idx := 0 } := by
    rw [step_engine hm hb, hf.init_line s hl]; rfl
  rw [steps_succ hinit]
  exact hf.steps_loop s.txLen.toNat ⟨hb, hm, rfl⟩ rfl (by simp)

/-- R113, R114: the fold and the line after it, which ends the operation. -/
theorem FoldsTxFrame.steps_finish {ini loop done : Label} (hf : FoldsTxFrame ini loop done) (hr : s.runsAt ini)
    (ht : microLine { s with seq := done, idx := s.txLen, acc := cs s.txFrame } = .next t) :
    steps (s.txLen.toNat + 3) s = .next t := by
  have ⟨hb, hm, _⟩ := hr
  rw [steps_add (hf.steps_fold hr) 1, steps_succ ((step_engine (by exact hm) (by exact hb)).trans ht), steps_zero]

/-! ## From the start to the end -/

/-- R25: an operation started on an idle block runs at its first label. -/
theorem startOp_runsAt (op : HostOp) (h : s.ready) : (startOp op s).runsAt (firstLabel op) := by
  obtain ⟨-, hm⟩ := h
  rw [startOp_record]
  exact ⟨rfl, hm, rfl⟩

/-- R25, R50: the start of an operation leaves the frame to transmit. -/
theorem startOp_txFrame (op : HostOp) (s : State) : (startOp op s).txFrame = s.txFrame := by
  rw [startOp_record]; rfl

/-- R113, R114: an operation that folds, from its start on an idle block through the fold to the line that ends it. -/
theorem FoldsTxFrame.steps_startOp {op : HostOp} {loop done : Label} (hf : FoldsTxFrame (firstLabel op) loop done)
    (hr : s.ready)
    (ht : microLine { startOp op s with seq := done, idx := s.txLen, acc := cs s.txFrame } = .next t) :
    steps (s.txLen.toNat + 3) (startOp op s) = .next t := by
  have hlen : (startOp op s).txLen = s.txLen := by rw [startOp_record]
  rw [← startOp_txFrame op s, ← hlen] at ht
  rw [← hlen]
  exact hf.steps_finish (startOp_runsAt op hr) ht

/-- Settles O12: `CSUM` folds the frame and finishes with success. -/
theorem csumComputesTheChecksum : Obligations.CsumComputesTheChecksum := by
  intro s hr
  have hstart : exec .csum s = .next (startOp .csum s) := exec_opCode_defined (op := .csum) hr.1 (by decide)
  refine ⟨_, _, hstart, (csum_foldsTxFrame.steps_startOp hr rfl).trans ?_⟩
  simp [startOp_record, entryLink, finish, emit]

/-- Settles O13: `VERIFY` folds the frame and finishes with the verdict on `chk_in`. -/
theorem verifyReportsTheVerdict : Obligations.VerifyReportsTheVerdict := by
  intro s hr
  have hstart : exec .verify s = .next (startOp .verify s) := exec_opCode_defined (op := .verify) hr.1 (by decide)
  refine ⟨_, _, hstart, (verify_foldsTxFrame.steps_startOp hr rfl).trans ?_⟩
  simp [startOp_record, entryLink, finish, emit, checksumOk, verifyChecksum]

end Sys2Proof.Machine
end

section
/-! PROOFS. R128, R129: `DECODE` as a function of the answers. A frame is cut as `DECODE` reads it, into control field, four
address bytes, length byte and payload, and a timeout falls before, in or after one of these parts. A script that ends and a
script that goes on with a timeout both answer `Timeout` next (R72), so one lemma covers the two. -/

namespace Sys2Proof.Machine

variable {f bs addr p : List Byte} {r r' : List Answer} {b c l : Byte} {n : Nat}

/-! ## Successive reads -/

/-- R129: the next answer of a script that has not ended. -/
@[simp] theorem nextAnswer_cons (a : Answer) (r : List Answer) : nextAnswer (a :: r) = (a, r) := rfl

/-- R129: one read more, answered with a byte. -/
theorem readBytes_succ_byte (n : Nat) (b : Byte) (r : List Answer) :
    readBytes (n + 1) (.byte b :: r) = ((readBytes n r).1.map (b :: ·), (readBytes n r).2) := by
  rcases h : readBytes n r with ⟨_ | bs, r'⟩ <;> simp [readBytes, h]

/-- R72: one read more, not answered. -/
theorem readBytes_succ_timeout (hr : nextAnswer r = (.timeout, r')) (n : Nat) : readBytes (n + 1) r = (none, r') := by
  simp [readBytes, hr]

/-- R129: as many reads as there are bytes take these bytes and no further answer. -/
theorem readBytes_map_append (r : List Answer) (hn : bs.length = n) :
    readBytes n (bs.map .byte ++ r) = (some bs, r) := by
  subst hn
  induction bs with
  | nil => rfl
  | cons b bs ih => simp [readBytes_succ_byte, ih]

/-- R128: fewer bytes than reads and then a timeout: the bytes and the timeout are taken. -/
theorem readBytes_map_append_timeout (hr : nextAnswer r = (.timeout, r')) (hn : bs.length < n) :
    readBytes n (bs.map .byte ++ r) = (none, r') := by
  induction bs generalizing n with
  | nil =>
    obtain ⟨n, rfl⟩ := Nat.exists_eq_succ_of_ne_zero (Nat.ne_of_gt hn)
    exact readBytes_succ_timeout hr n
  | cons b bs ih =>
    obtain ⟨n, rfl⟩ := Nat.exists_eq_succ_of_ne_zero (Nat.ne_zero_of_lt hn)
    simp [readBytes_succ_byte, ih (Nat.lt_of_succ_lt_succ hn)]

/-! ## The first byte -/

/-- R85, R86: the bytes of the class of control fields. -/
theorem classify_eq_ctrl_iff (b : Byte) : classify b = .ctrl ↔ isCtrl b = true := by
  revert b; decide

/-- R96: the bytes that no other class takes. -/
theorem wf_rxOther_iff (b : Byte) : (Instr.rxOther b).wf = true ↔ classify b = .other :=
  beq_iff_eq

/-- R129: a control field leads to the rest of the frame. -/
theorem decodeAnswers_ctrl (hc : isCtrl c = true) (r : List Answer) : decodeAnswers (.byte c :: r) = decodeBody c r := by
  simp [decodeAnswers, (classify_eq_ctrl_iff c).mpr hc]

/-- R122: a byte of no class of its own. -/
theorem decodeAnswers_other (hb : classify b = .other) (r : List Answer) :
    decodeAnswers (.byte b :: r) = .failed .malformedControl r := by
  simp [decodeAnswers, hb]

/-! ## After the control field -/

/-- R88, R94, R124: the payload has one byte more than the low four bits of the length byte say. -/
theorem toNat_payloadCount (l : Byte) : (payloadCount l).toNat = (l &&& 0x0F).toNat + 1 := by
  revert l; decide

/-- R128: a timeout at an address byte or at the length byte. -/
theorem decodeBody_header_timeout (c : Byte) (hr : nextAnswer r = (.timeout, r')) (hbs : bs.length ≤ 4) :
    decodeBody c (bs.map .byte ++ r) = .failed .timeout r' := by
  rcases Nat.lt_or_eq_of_le hbs with hlt | heq
  · simp [decodeBody, readBytes_map_append_timeout hr hlt]
  · simp [decodeBody, readBytes_map_append r heq, hr]

/-- R128: a timeout at a payload byte or at the checksum. -/
theorem decodeBody_payload_timeout (c : Byte) (haddr : addr.length = 4) (hr : nextAnswer r = (.timeout, r'))
    (hp : p.length ≤ (payloadCount l).toNat) :
    decodeBody c (addr.map .byte ++ .byte l :: (p.map .byte ++ r)) = .failed .timeout r' := by
  rcases Nat.lt_or_eq_of_le hp with hlt | heq
  · simp [decodeBody, readBytes_map_append _ haddr, readBytes_map_append_timeout hr hlt]
  · simp [decodeBody, readBytes_map_append _ haddr, readBytes_map_append r heq, hr]

/-- R125: every byte of the frame and its checksum answered: the verdict decides. -/
theorem decodeBody_answered (c k : Byte) (r : List Answer) (haddr : addr.length = 4)
    (hp : p.length = (payloadCount l).toNat) :
    decodeBody c (addr.map .byte ++ .byte l :: (p.map .byte ++ .byte k :: r)) =
      if verifyChecksum (c :: addr ++ l :: p) k then
        { code := .none, frame := c :: addr ++ l :: p, polarity := none, left := r }
      else .failed .checksumMismatch r := by
  simp [decodeBody, readBytes_map_append _ haddr, readBytes_map_append _ hp]

/-! ## A frame cut into its parts -/

/-- R120: the first byte of a sequence that begins with a control field. -/
theorem exists_ctrl_cons (hc : f.head?.any isCtrl = true) : ∃ c g, f = c :: g ∧ isCtrl c = true := by
  cases f with
  | nil => simp at hc
  | cons c g => exact ⟨c, g, rfl, by simpa using hc⟩

/-- R120: the parts of a sequence that begins with a control field and has a sixth byte. -/
theorem exists_frame_parts (hc : f.head?.any isCtrl = true) (hl : f[5]? = some l) :
    ∃ c addr p, f = c :: addr ++ l :: p ∧ isCtrl c = true ∧ addr.length = 4 ∧ f.length = p.length + 6 := by
  obtain ⟨c, g, rfl, hctrl⟩ := exists_ctrl_cons hc
  obtain ⟨hlt, hget⟩ := List.getElem?_eq_some_iff.mp (by simpa using hl : g[4]? = some l)
  refine ⟨c, g.take 4, g.drop 5, ?_, hctrl, by simp; omega, by simp; omega⟩
  rw [← hget, List.cons_append, List.getElem_cons_drop, List.take_append_drop]

/-- R128: whatever answers follow the bytes `f`, if `Timeout` is the next of them, `DECODE` ends with it there. -/
def TimesOutAfter (f : List Byte) : Prop :=
  ∀ r r' : List Answer, nextAnswer r = (.timeout, r') → decodeAnswers (f.map .byte ++ r) = .failed .timeout r'

/-- R72: the timeout answered, and the script at its end. -/
theorem TimesOutAfter.answered_and_exhausted (h : TimesOutAfter f) (r : List Answer) :
    decodeAnswers (f.map .byte ++ .timeout :: r) = .failed .timeout r ∧
      decodeAnswers (f.map .byte) = .failed .timeout [] :=
  ⟨h _ r rfl, by simpa using h [] [] rfl⟩

/-- R128: a timeout at the first byte. -/
theorem timesOutAfter_nil : TimesOutAfter [] := by
  intro r r' hr
  simp [decodeAnswers, hr]

/-- R128: a timeout at bytes 2 to 6. -/
theorem timesOutAfter_of_header (hc : f.head?.any isCtrl = true) (hn : f.length ≤ 5) : TimesOutAfter f := by
  intro r r' hr
  obtain ⟨c, g, rfl, hctrl⟩ := exists_ctrl_cons hc
  have hg : g.length ≤ 4 := Nat.le_of_succ_le_succ hn
  rw [List.map_cons, List.cons_append, decodeAnswers_ctrl hctrl, decodeBody_header_timeout c hr hg]

/-- R128: a timeout from byte 7 to the checksum. -/
theorem timesOutAfter_of_payload (hc : f.head?.any isCtrl = true) (hl : f[5]? = some l)
    (hn : f.length ≤ 7 + (l &&& 0x0F).toNat) : TimesOutAfter f := by
  intro r r' hr
  obtain ⟨c, addr, p, rfl, hctrl, haddr, hlen⟩ := exists_frame_parts hc hl
  have hp : p.length ≤ (payloadCount l).toNat := by rw [toNat_payloadCount]; omega
  simpa [decodeAnswers_ctrl hctrl] using decodeBody_payload_timeout c haddr hr hp

/-- R128: a whole frame and a byte after it, which is taken for its checksum. -/
theorem decodeAnswers_frame (hc : f.head?.any isCtrl = true) (hl : f[5]? = some l)
    (hn : f.length = 7 + (l &&& 0x0F).toNat) (k : Byte) (r : List Answer) :
    decodeAnswers ((f ++ [k]).map .byte ++ r) =
      if k = cs f then { code := .none, frame := f, polarity := none, left := r } else .failed .checksumMismatch r := by
  obtain ⟨c, addr, p, rfl, hctrl, haddr, hlen⟩ := exists_frame_parts hc hl
  have hp : p.length = (payloadCount l).toNat := by rw [toNat_payloadCount]; omega
  simpa [decodeAnswers_ctrl hctrl, verifyChecksum_iff] using decodeBody_answered c k r haddr hp

/-- Settles O20: by the class of the first byte, and after a control field by the part of the frame that the answers reach. -/
theorem whatDecodeConsumes : Obligations.WhatDecodeConsumes := by
  refine ⟨?exhausted, ?timeout, ?linkLost, ?negative, ?positive, ?malformed, ?frame, ?payloadTimeout, ?headerTimeout⟩
  case exhausted => exact timesOutAfter_nil [] [] rfl
  case timeout => exact fun r => timesOutAfter_nil _ r rfl
  case linkLost => exact fun r => rfl
  case negative => exact fun r => rfl
  case positive => exact fun r => rfl
  case malformed => exact fun b r hb => decodeAnswers_other ((wf_rxOther_iff b).mp hb) r
  case frame =>
    intro f k r l hl hn hc
    rw [decodeAnswers_frame hc hl hn]
    exact ⟨fun hk => if_pos hk, fun hk => if_neg hk⟩
  case payloadTimeout => exact fun f r l hc hl hn => (timesOutAfter_of_payload hc hl hn).answered_and_exhausted r
  case headerTimeout => exact fun f r hc hn => (timesOutAfter_of_header hc hn).answered_and_exhausted r

end Sys2Proof.Machine
end

section
/-! PROOFS. R130, R132, R135: the encoding of a frame byte by byte. The pairs (`encPairs`) are known one by one from any
start index; a frame of at most 63 bytes counts its prefixes without a wrap of the 6-bit index. -/

namespace Sys2Proof.Machine

variable {f : List Byte} {n : Nat}

/-! ## The pairs -/

/-- R132: two bytes for each byte of the frame. -/
@[simp] theorem length_encPairs (i : BitVec 6) (f : List Byte) : (encPairs i f).length = 2 * f.length := by
  induction f generalizing i with
  | nil => rfl
  | cons b f ih => simp [encPairs, ih]; omega

/-- R132: the pair of frame byte `j`. -/
theorem getElem?_encPairs (i : BitVec 6) {j : Nat} (hj : j < f.length) :
    (encPairs i f)[2 * j]? = some (prefixByte (i + BitVec.ofNat 6 j)) ∧ (encPairs i f)[2 * j + 1]? = f[j]? := by
  induction f generalizing i j with
  | nil => simp at hj
  | cons b f ih =>
    cases j with
    | zero => simp [encPairs]
    | succ j =>
      obtain ⟨hprefix, hbyte⟩ := ih (i + 1) (Nat.lt_of_succ_lt_succ hj)
      have hidx : i + 1 + BitVec.ofNat 6 j = i + BitVec.ofNat 6 (j + 1) := by
        rw [BitVec.add_assoc, Nat.add_comm j, BitVec.ofNat_add]; rfl
      exact ⟨hprefix.trans (by rw [hidx]), hbyte⟩

/-- R135: a pair that is not the last gives its byte. -/
theorem strip_cons_cons (a b : Byte) {e : List Byte} (he : e ≠ []) : strip (a :: b :: e) = b :: strip e := by
  cases e with
  | nil => exact absurd rfl he
  | cons c e => rfl

/-- R135: the pairs give the frame back, and the last pair its second byte. -/
theorem strip_encPairs_append (i : BitVec 6) (f : List Byte) (m k : Byte) :
    strip (encPairs i f ++ [m, k]) = f ++ [k] := by
  induction f generalizing i with
  | nil => rfl
  | cons b f ih => rw [encPairs, List.cons_append, List.cons_append, strip_cons_cons _ _ (by simp), ih, List.cons_append]

/-! ## `prefixByte` and `endByte` as numbers -/

/-- R90: `prefixByte` of an index without a wrap. -/
theorem prefixByte_ofNat (hn : n < 64) : prefixByte (BitVec.ofNat 6 n) = BitVec.ofNat 8 (0x80 + n) := by
  rw [prefixByte]; bv_omega

/-- R91: `endByte` of a length without a wrap. -/
theorem endByte_ofNat (hn : n < 64) : endByte (BitVec.ofNat 6 n) = BitVec.ofNat 8 (0x40 + n) := by
  rw [endByte]; bv_omega

/-! ## The encoding -/

/-- R130, R132: the encoding of a frame of 7 to 63 bytes. -/
theorem enc_eq_some (hmin : 7 ≤ f.length) (hmax : f.length ≤ 63) :
    enc f = some (encPairs 0 f ++ [BitVec.ofNat 8 (0x40 + f.length), cs f]) := by
  rw [enc, if_neg (by simp only [txMin]; omega), if_neg (by simp only [txMax]; omega), endByte_ofNat (by omega)]

/-- Settles O21: the pairs come first and are known one by one, then the end marker and the checksum. -/
theorem encodingByteByByte : Obligations.EncodingByteByByte := by
  intro f hmin hmax
  refine ⟨_, enc_eq_some hmin hmax, ?length, ?pairs, ?marker, ?checksum, strip_encPairs_append 0 f _ _⟩
  case length => simp
  case pairs =>
    intro i hi
    obtain ⟨hprefix, hbyte⟩ := getElem?_encPairs 0 hi
    have hidx : (0 : BitVec 6) + BitVec.ofNat 6 i = BitVec.ofNat 6 i := BitVec.zero_add _
    rw [hidx, prefixByte_ofNat (by omega)] at hprefix
    rw [List.getElem?_append_left (by simp; omega), List.getElem?_append_left (by simp; omega)]
    exact ⟨hprefix, hbyte⟩
  case marker => simp
  case checksum => simp

end Sys2Proof.Machine
end

section
/-! PROOFS. R164: `link_state` gates nothing. `forgetLink` goes through every operation that a line is built from; a write of
`link_state` is what it forgets. So every line commutes with it, but for the six that write `link_state`, and these do once
both sides are forgotten. -/

namespace Sys2Proof.Machine

variable {s : State}

/-! ## What `forgetLink` leaves of a state -/

@[simp] theorem forgetLink_seq (s : State) : (forgetLink s).seq = s.seq := rfl
@[simp] theorem forgetLink_busy (s : State) : (forgetLink s).busy = s.busy := rfl
@[simp] theorem forgetLink_acc (s : State) : (forgetLink s).acc = s.acc := rfl
@[simp] theorem forgetLink_isOpen (s : State) : (forgetLink s).isOpen = s.isOpen := rfl

/-- What is forgotten once stays forgotten. -/
@[simp] theorem forgetLink_forgetLink (s : State) : forgetLink (forgetLink s) = forgetLink s := by
  simp [forgetLink]

/-- R205: the event of a write of `link_state` is forgotten. -/
@[simp] theorem filter_linkEvent (v w : LinkState) : (linkEvent v w).filter (fun e => !e.isLink) = [] := by
  unfold linkEvent
  split <;> rfl

/-- R163: a write of `link_state` is forgotten. -/
@[simp] theorem forgetLink_setLink (v : LinkState) (s : State) : forgetLink (setLink v s) = forgetLink s := by
  simp [setLink_record, forgetLink]

/-! ## The operations on the state -/

/-- R205: of the events only those of `link_state` are forgotten. -/
@[simp] theorem forgetLink_emit (e : Event) (s : State) :
    forgetLink (emit e s) = if e.isLink then forgetLink s else emit e (forgetLink s) := by
  cases he : e.isLink <;> simp [forgetLink, emit, he]

@[simp] theorem forgetLink_goto (l : Label) (s : State) : forgetLink (goto l s) = goto l (forgetLink s) := rfl

@[simp] theorem forgetLink_returnSub (ok : Bool) (c : ResCode) (l : Label) (s : State) :
    forgetLink (returnSub ok c l s) = returnSub ok c l (forgetLink s) := rfl

@[simp] theorem forgetLink_decodeFail (c : ResCode) (s : State) :
    forgetLink (decodeFail c s) = decodeFail c (forgetLink s) := rfl

@[simp] theorem forgetLink_twrite (b : Byte) (s : State) : forgetLink (twrite b s) = twrite b (forgetLink s) :=
  forgetLink_emit _ _

@[simp] theorem forgetLink_tconfigure (p : LineParams) (s : State) :
    forgetLink (tconfigure p s) = tconfigure p (forgetLink s) :=
  forgetLink_emit _ _

@[simp] theorem forgetLink_tflush (T : TimeLabel) (s : State) : forgetLink (tflush T s) = tflush T (forgetLink s) := by
  unfold tflush
  cases hp : s.flushPlan <;> simp only [forgetLink, hp] <;> exact forgetLink_emit _ _

@[simp] theorem forgetLink_finish (ok : Bool) (c : ResCode) (s : State) :
    forgetLink (finish ok c s) = finish ok c (forgetLink s) :=
  forgetLink_emit _ _

@[simp] theorem forgetLink_endReset (ok : Bool) (c : ResCode) (s : State) :
    forgetLink (endReset ok c s) = endReset ok c (forgetLink s) := by
  unfold endReset
  simp only [apply_ite forgetLink, forgetLink_finish, forgetLink_returnSub]
  rfl

@[simp] theorem forgetLink_endSetaddr (ok : Bool) (c : ResCode) (s : State) :
    forgetLink (endSetaddr ok c s) = endSetaddr ok c (forgetLink s) := by
  unfold endSetaddr
  simp only [apply_ite forgetLink, forgetLink_finish, forgetLink_returnSub]
  rfl

@[simp] theorem forgetLink_endChkstate (ok : Bool) (c : ResCode) (s : State) :
    forgetLink (endChkstate ok c s) = endChkstate ok c (forgetLink s) := by
  unfold endChkstate
  simp only [apply_ite forgetLink, forgetLink_finish, forgetLink_returnSub, forgetLink_goto]
  rfl

@[simp] theorem forgetLink_onEntry (op : HostOp) (s : State) : forgetLink (onEntry op s) = forgetLink s := by
  cases op <;> simp [onEntry]

/-- R25, R143, R147: the start of an operation, whose entry may write `link_state`. -/
theorem forgetLink_startOp (op : HostOp) (s : State) :
    forgetLink (startOp op s) = forgetLink (startOp op (forgetLink s)) := by
  simp only [startOp, forgetLink_onEntry]
  simp [emit, forgetLink, Event.isLink]

/-! ## The shapes of a line -/

@[simp] theorem outcomeUpTo_next (f : State → State) (s : State) : outcomeUpTo f (.next s) = .next (f s) := rfl

/-- A line that ends in the same state. -/
theorem next_forgetLink {u v : State} (h : forgetLink u = v) :
    outcomeUpTo forgetLink (.next u) = .next v := congrArg Host.Outcome.next h

/-- A line that tests `c`. -/
theorem ite_forgetLink (c : Bool) {r₁ r₂ r₁' r₂' : Result} (h₁ : outcomeUpTo forgetLink r₁ = r₁')
    (h₂ : outcomeUpTo forgetLink r₂ = r₂') :
    outcomeUpTo forgetLink (if c then r₁ else r₂) = if c then r₁' else r₂' := by
  cases c <;> assumption

/-- A request is refused or made alike. -/
theorem whenOpen_forgetLink (s : State) (r : Result) :
    outcomeUpTo forgetLink (whenOpen s r) = whenOpen (forgetLink s) (outcomeUpTo forgetLink r) :=
  apply_ite (outcomeUpTo forgetLink) _ _ _

/-- A line that sends. -/
theorem send_forgetLink (b : Byte) (l : Label) (s : State) :
    outcomeUpTo forgetLink (send b l s) = send b l (forgetLink s) := by
  simp [send, whenOpen_forgetLink]

/-- A line that reads, if it goes on alike with either answer. -/
theorem readByte_forgetLink (T : TimeLabel) {onT : State → Result} {onB : Byte → State → Result}
    (hT : ∀ u, outcomeUpTo forgetLink (onT u) = onT (forgetLink u))
    (hB : ∀ b u, outcomeUpTo forgetLink (onB b u) = onB b (forgetLink u)) (s : State) :
    outcomeUpTo forgetLink (readByte T s onT onB) = readByte T (forgetLink s) onT onB := by
  cases ho : s.isOpen with
  | false => rw [readByte, whenOpen_closed _ ho, readByte, whenOpen_closed _ (by exact ho)]; rfl
  | true =>
    rcases answer_cases s.rxStream with ⟨r, hr⟩ | ⟨b, r, hr⟩
    · rw [readByte_timeout ho hr, hT, readByte_timeout (s := forgetLink s) ho hr]
      simp [forgetLink, Event.isLink]
    · rw [readByte_byte ho hr, hB, readByte_byte (s := forgetLink s) ho hr]
      simp [forgetLink, Event.isLink]

/-- A line that pushes, if it goes on alike. -/
theorem orFault_push_forgetLink (v : Byte) {k : State → Result}
    (hk : ∀ u, outcomeUpTo forgetLink (k u) = k (forgetLink u)) (s : State) :
    outcomeUpTo forgetLink (orFault (push v s) k) = orFault (push v (forgetLink s)) k := by
  by_cases hl : s.rxLen.toNat < rxMax
  · rw [push_ok hl, push_ok (s := forgetLink s) hl]; exact hk _
  · simp [push, hl, orFault, outcomeUpTo, forgetLink]

/-- A line that reads `TXB`, if it goes on alike. -/
theorem orFault_readTxb_forgetLink (i : Nat) {k : Byte → State → Result}
    (hk : ∀ b u, outcomeUpTo forgetLink (k b u) = k b (forgetLink u)) (s : State) :
    outcomeUpTo forgetLink (orFault (readTxb i s) fun b => k b s) =
      orFault (readTxb i (forgetLink s)) fun b => k b (forgetLink s) := by
  by_cases hi : i < txMax
  · rw [readTxb_ok hi, readTxb_ok hi]; exact hk _ _
  · simp [readTxb, hi, orFault, outcomeUpTo]

/-- R31: a line that leaves its answer in the latch. -/
theorem readLatched_forgetLink (T : TimeLabel) (l : Label) (s : State) :
    outcomeUpTo forgetLink (readLatched T l s) = readLatched T l (forgetLink s) :=
  readByte_forgetLink T (fun _ => rfl) (fun _ _ => rfl) s

/-- R59: the two reads of a pair. -/
theorem readEchoFirst_forgetLink (second cmp : Label) (s : State) :
    outcomeUpTo forgetLink (readEchoFirst second cmp s) = readEchoFirst second cmp (forgetLink s) :=
  readByte_forgetLink .tShort (fun _ => rfl) (fun _ _ => rfl) s

theorem readEchoSecond_forgetLink (cmp : Label) (s : State) :
    outcomeUpTo forgetLink (readEchoSecond cmp s) = readEchoSecond cmp (forgetLink s) :=
  readByte_forgetLink .tShort (fun _ => rfl) (fun _ _ => rfl) s

/-- R123: a read of `DECODE`. -/
theorem readOrFail_forgetLink {onB : Byte → State → Result}
    (hB : ∀ b u, outcomeUpTo forgetLink (onB b u) = onB b (forgetLink u)) (s : State) :
    outcomeUpTo forgetLink (readOrFail s onB) = readOrFail (forgetLink s) onB :=
  readByte_forgetLink .tShort (fun _ => rfl) hB s

/-- R120: the byte of a counted loop of `DECODE`. -/
theorem pushCounted_forgetLink (b : Byte) (again after : Label) (s : State) :
    outcomeUpTo forgetLink (pushCounted b again after s) = pushCounted b again after (forgetLink s) :=
  orFault_push_forgetLink b (fun _ => rfl) s

/-- R124: the length byte of a `DECODE`. -/
theorem takeLength_forgetLink (b : Byte) (s : State) :
    outcomeUpTo forgetLink (orFault (push b s) fun t => .next (goto .decPay { t with cnt := payloadCount b })) =
      orFault (push b (forgetLink s)) fun t => .next (goto .decPay { t with cnt := payloadCount b }) :=
  orFault_push_forgetLink b (fun _ => rfl) s

/-- R122: the first byte of a `DECODE`, by its class. -/
theorem lineDecCls_forgetLink (s : State) : outcomeUpTo forgetLink (lineDecCls s) = lineDecCls (forgetLink s) := by
  have hrxb : (forgetLink s).rxb = s.rxb := rfl
  unfold lineDecCls
  rw [hrxb]
  cases classify s.rxb
  case ctrl => exact orFault_push_forgetLink s.rxb (fun _ => rfl) s
  all_goals rfl

/-- R113, R114: the loop line of `CSUM` and `VERIFY`. -/
theorem foldLoop_forgetLink (loop done : Label) (s : State) :
    outcomeUpTo forgetLink (foldLoop loop done s) = foldLoop loop done (forgetLink s) :=
  ite_forgetLink (moreToSend s)
    (orFault_readTxb_forgetLink s.idx.toNat (k := fun b u => .next (goto loop { csAbsorb b u with idx := u.idx + 1 }))
      (fun _ _ => rfl) s)
    rfl

/-- R174: the line of `WRITE` that sends a frame byte. -/
theorem sendData_forgetLink (d : Byte) (s : State) :
    outcomeUpTo forgetLink (sendData d s) = sendData d (forgetLink s) := by
  simp [sendData, whenOpen_forgetLink, moreToSend, csAbsorb, twrite, emit, forgetLink, goto, Event.isLink]

/-! ## The line at a label -/

/-- R163: the labels whose line writes `link_state`. -/
def writesLink : Label → Bool
  | .iniRst | .rstCmp | .iniSia | .sia6c | .chkTx | .chkEnd => true
  | _ => false

/-- R164: the lines that do not write `link_state` do not see it either. -/
theorem microLine_forgetLink (hw : writesLink s.seq = false) :
    outcomeUpTo forgetLink (microLine s) = microLine (forgetLink s) := by
  unfold microLine
  rw [forgetLink_seq]
  cases hl : s.seq
  case iniRst | rstCmp | iniSia | sia6c | chkTx | chkEnd => simp [hl, writesLink] at hw
  case rstTx | sia1a | sia1b | sia2a | sia3a | sia3b | sia4a | sia4b | sia5a | sia5b | sia6a =>
    exact send_forgetLink _ _ s
  case chkRx | rstRx => exact readLatched_forgetLink _ _ s
  case sia2b | sia6b => exact readEchoFirst_forgetLink _ _ s
  case sia2bSecond | sia6bSecond => exact readEchoSecond_forgetLink _ s
  case csuLoop | verLoop => exact foldLoop_forgetLink _ _ s
  case csuEnd | verEnd | rdEnd => exact next_forgetLink (forgetLink_finish _ _ s)
  case rstTop => exact ite_forgetLink s.cancel (next_forgetLink (forgetLink_endReset _ _ s)) rfl
  case siaTop => exact ite_forgetLink s.cancel (next_forgetLink (forgetLink_endSetaddr _ _ s)) rfl
  case iniTop => exact ite_forgetLink s.cancel (next_forgetLink (forgetLink_finish _ _ s)) rfl
  case iniEnd =>
    exact ite_forgetLink s.retOk (next_forgetLink (forgetLink_finish _ _ s)) (next_forgetLink (by simp [Event.isLink]))
  case sia5c => simp [lineSia5c, tdelay, Event.isLink]
  case siaFail => simp [lineSiaFail, flushInput, whenOpen_forgetLink, Event.isLink]
  case iniOpen => cases ho : s.isOpen <;> simp [lineIniOpen, tisOpen, ho, Event.isLink]
  case iniCfg => simp [lineIniCfg, whenOpen_forgetLink]
  case decCtrl => exact readOrFail_forgetLink (fun _ _ => rfl) _
  case decCls => exact lineDecCls_forgetLink s
  case decAddr | decPay => exact readOrFail_forgetLink (fun b u => pushCounted_forgetLink b _ _ u) s
  case decLen => exact readOrFail_forgetLink takeLength_forgetLink s
  case decChk => exact readOrFail_forgetLink (fun _ _ => rfl) s
  case decVfy => exact ite_forgetLink (checksumOk s.rxb s) rfl rfl
  case wrChk => exact ite_forgetLink (frameTooShort s) (next_forgetLink (forgetLink_finish _ _ s)) rfl
  case wrPfx => exact ite_forgetLink (prefixIndexOk s.idx) (send_forgetLink _ _ s) rfl
  case wrDat => exact orFault_readTxb_forgetLink _ sendData_forgetLink s
  case wrEnd => exact ite_forgetLink (endLengthOk s.txLen) (send_forgetLink _ _ s) rfl
  case wrCs => simp [lineWrCs, sendChecksum, whenOpen_forgetLink]
  all_goals rfl

/-- R164: the line at any label: what it writes into `link_state` is forgotten, what it tests is not `link_state`. -/
theorem microLine_forgetLink_congr (s : State) :
    outcomeUpTo forgetLink (microLine s) = outcomeUpTo forgetLink (microLine (forgetLink s)) := by
  cases hw : writesLink s.seq with
  | false => rw [microLine_forgetLink hw, microLine_forgetLink (s := forgetLink s) hw, forgetLink_forgetLink]
  | true =>
    unfold microLine
    rw [forgetLink_seq]
    cases hl : s.seq <;> simp only [hl, writesLink, Bool.false_eq_true] at hw
    case iniRst => simp [lineIniRst]
    case iniSia => simp [lineIniSia]
    case chkTx => simp [lineChkTx, send_forgetLink]
    case rstCmp =>
      have hack : ackReceived (forgetLink s) = ackReceived s := rfl
      simp [lineRstCmp, takeResetAck, apply_ite (outcomeUpTo forgetLink), hack, Event.isLink]
    case sia6c =>
      have hecho : echoReceived (forgetLink s).siaEcho2 (forgetLink s) = echoReceived s.siaEcho2 s := rfl
      simp [lineSia6c, takeSecondEcho, apply_ite (outcomeUpTo forgetLink), hecho]
    case chkEnd =>
      have hready : readyReceived (forgetLink s) = readyReceived s := rfl
      have htimeout : (forgetLink s).rxTimeout = s.rxTimeout := rfl
      simp [lineChkEnd, takeReady, apply_ite (outcomeUpTo forgetLink), hready, htimeout]

/-! ## The step -/

/-- R164: the engine's turn. -/
theorem engineTurn_forgetLink (s : State) :
    outcomeUpTo forgetLink (engineTurn s).result = outcomeUpTo forgetLink (engineTurn (forgetLink s)).result := by
  cases hb : s.busy with
  | true => rw [engineTurn_busy hb, engineTurn_busy (s := forgetLink s) hb]; exact microLine_forgetLink_congr s
  | false => rw [engineTurn_idle hb, engineTurn_idle (s := forgetLink s) hb]; simp

/-- R164: the pulse of `op_start` with any code, on an idle block. -/
theorem exec_opCode_forgetLink (c : BitVec 4) (hb : s.busy = false) :
    outcomeUpTo forgetLink (exec (decodeOpCode c) s) = outcomeUpTo forgetLink (exec (decodeOpCode c) (forgetLink s)) := by
  rcases exec_opCode c hb with ⟨rfl, he⟩ | ⟨op, hop, rfl, he⟩ | ⟨hc, he⟩
  · rw [he, exec_opCode_zero]; simp
  · rw [he, exec_opCode_defined (s := forgetLink s) hb hop]
    exact next_forgetLink (forgetLink_startOp op s)
  · rw [he, exec_opCode_reserved (s := forgetLink s) hb hc]
    simp [rejectCode_record, forgetLink]

/-- R164: the moves of the host, the platform and the transport. -/
theorem hostTurn_forgetLink (x : HostMove) (s : State) :
    outcomeUpTo forgetLink (hostTurn x s).result = outcomeUpTo forgetLink (hostTurn x (forgetLink s)).result := by
  cases x
  case opStart c =>
    cases hb : s.busy with
    | true => simp [hostTurn, hb, Turn.result]
    | false => simpa [hostTurn, hb, Turn.result] using exec_opCode_forgetLink c hb
  case writeTxb | writeTxLen | writeChkIn =>
    cases hb : s.busy <;> simp [hostTurn, whileIdle, hb, Turn.result, forgetLink]
  all_goals simp [hostTurn, Turn.result, forgetLink, hwReset]

/-- R164: a step does not see `link_state`, whoever's turn it is. -/
theorem step_forgetLink (s : State) :
    outcomeUpTo forgetLink (step s) = outcomeUpTo forgetLink (step (forgetLink s)) := by
  have hmoves : (forgetLink s).moves = s.moves := rfl
  rw [step_eq, step_eq, turn, turn, hmoves]
  cases s.moves with
  | nil => exact engineTurn_forgetLink s
  | cons x r =>
    cases x
    case letEngine => exact engineTurn_forgetLink { s with moves := r }
    case waitIdle =>
      cases hb : s.busy with
      | true => simpa [hb] using engineTurn_forgetLink s
      | false => simp [hb, Turn.result, forgetLink]
    all_goals exact hostTurn_forgetLink _ { s with moves := r }

/-- Settles O45: both steps are alike with the step of the state that both forget to. -/
theorem linkStateGatesNothing : Obligations.LinkStateGatesNothing := by
  intro s t h
  calc outcomeUpTo forgetLink (step s)
      = outcomeUpTo forgetLink (step (forgetLink s)) := step_forgetLink s
    _ = outcomeUpTo forgetLink (step (forgetLink t)) := by rw [h]
    _ = outcomeUpTo forgetLink (step t) := (step_forgetLink t).symm

end Sys2Proof.Machine
end

section
/-! PROOFS. R163: every write of `link_state` is a row of the table, and every row writes. -/

namespace Sys2Proof.Machine

variable {s t : State}

/-- R140: a response that timed out is not the ready byte. -/
theorem readyReceived_of_rxTimeout (ht : s.rxTimeout = true) : readyReceived s = false := by
  simp [readyReceived, ht]

/-- R163: the rows of the engine's labels. -/
theorem Micro.linkState_eq (h : Micro s t) : t.linkState = linkAfterMicro s := by
  unfold linkAfterMicro
  cases h with
  | rstCmpAck hl hack => simp [hl, hack]
  | rstCmpRetry hl hack => simp [hl, hack]
  | sia6cMatch hl he => simp [hl, he]
  | sia6cFail hl he => simp [hl, he]
  | chkEndReady hl hr => simp [hl, hr]
  | chkEndTimeout hl ht => simp [hl, readyReceived_of_rxTimeout ht]
  | chkEndWrong hl hr => simp [hl, hr]
  | _ => simp [*] -- a label that writes without a test, or one that does not write

/-- R163: the row of the engine's turn. -/
theorem linkAfter_engine (he : engineNext s.moves = true) :
    linkAfter s = if s.busy then linkAfterMicro s else s.linkState := by
  unfold linkAfter
  split <;> simp_all [engineNext]

/-- R163: the row of a pulse of `op_start`. -/
theorem linkAfter_opStart {c : BitVec 4} {m : List HostMove} (hm : s.moves = .opStart c :: m) :
    linkAfter s =
      if s.busy then s.linkState
      else if c = 0x4 then .resetting else if c = 0x5 then .addressAssigning else s.linkState := by
  rw [linkAfter, hm]

/-- R143, R147, R163: the rows of the codes that start an operation. -/
theorem entryLink_eq (op : HostOp) (v : LinkState) :
    entryLink op v = if op.code = 0x4 then .resetting else if op.code = 0x5 then .addressAssigning else v := by
  cases op <;> rfl

/-- R163: the rows of the moves of the host, the platform and the transport. -/
theorem HostStep.linkState_eq {x : HostMove} {m : List HostMove} (h : HostStep { s with moves := m } x t)
    (hm : s.moves = x :: m) : t.linkState = linkAfter s := by
  cases h with
  | ignored c hb => rw [linkAfter_opStart hm, if_pos (by exact hb)]
  | nop hb => simp [linkAfter_opStart hm]
  | started op hb => rw [linkAfter_opStart hm, if_neg (ne_true_of_eq_false hb)]; exact entryLink_eq op s.linkState
  | rejected c _ hc =>
    have hreset : c ≠ 0x4 := by rintro rfl; simp at hc
    have hsetaddr : c ≠ 0x5 := by rintro rfl; simp at hc
    rw [linkAfter_opStart hm, if_neg hreset, if_neg hsetaddr, ite_self]
  | hwReset => rw [linkAfter, hm]; rfl
  | _ => simp [linkAfter, hm, engineNext]

/-- Settles O44: the row is that of the agent whose turn it is. -/
theorem linkStateFollowsItsTable : Obligations.LinkStateFollowsItsTable := by
  intro s t hs
  rcases next_cases hs with ⟨he, hb, m, -, h⟩ | ⟨he, hb, m, -, rfl⟩ | ⟨he, x, m, hm, h⟩
  · rw [linkAfter_engine he, if_pos hb, h.linkState_eq]; rfl
  · simp [linkAfter_engine he, hb]
  · exact h.linkState_eq hm

end Sys2Proof.Machine
end

section
/-! PROOFS. R140, R141, R143, R144: `CHKSTATE` and `RESET` from start to end. Each sends its request, takes one answer and
compares it; `RESET` does so again for every answer that is not 0x03, which is an induction over these answers. -/

namespace Sys2Proof.Machine

variable {s t : State} {a : Answer} {r : List Answer} {T : TimeLabel} {l : Label}

/-! ## One answer -/

/-- R205: a write that changes the value makes one event. -/
theorem linkEvent_of_ne {v w : LinkState} (h : v ≠ w) : linkEvent v w = [.state w] := if_neg h

/-- A run, nobody else being to move, goes on from what the line at the label leaves. -/
theorem steps_of_line {n : Nat} {x : Result} (hb : s.busy = true) (hm : s.moves = []) (h : microLine s = .next t)
    (hrest : steps n t = x) : steps (n + 1) s = x :=
  (steps_succ ((step_engine hm hb).trans h) n).trans hrest

/-- R31: the latch after the answer `a`; a timeout leaves it. -/
def latchAfter (a : Answer) (b : Byte) : Byte :=
  match a with
  | .byte b' => b'
  | .timeout => b

/-- R31, R57: the state after a line has taken the answer `a`, with the answers `r` left, and goes on at `l`. -/
def State.answered (s : State) (T : TimeLabel) (l : Label) (a : Answer) (r : List Answer) : State :=
  { s with
    seq := l, rxStream := r, rxb := latchAfter a s.rxb, rxTimeout := decide (a = .timeout),
    events := s.events ++ [answerEvent T a] }

/-- R31, R57: a line that reads on an open transport, whatever the answer. -/
theorem readLatched_open (T : TimeLabel) (l : Label) (ho : s.isOpen = true) (ha : nextAnswer s.rxStream = (a, r)) :
    readLatched T l s = .next (s.answered T l a r) := by
  rcases answer_cases s.rxStream with ⟨r', hr⟩ | ⟨b, r', hr⟩
  · obtain ⟨rfl, rfl⟩ := Prod.mk.inj (hr.symm.trans ha)
    exact readByte_timeout ho hr
  · rw [hr, nextAnswer_cons] at ha
    obtain ⟨rfl, rfl⟩ := Prod.mk.inj ha
    exact readByte_byte ho hr

/-- R143: the answer latched is an acknowledgement exactly for the byte 0x03. -/
theorem ackReceived_answered : ackReceived (s.answered T l a r) = decide (a = .byte 0x03) := by
  rw [Bool.eq_iff_iff, decide_eq_true_iff]
  cases a <;> simp [State.answered, ackReceived, latchAfter, resetAck]

/-- R141: the answer latched is ready exactly for the byte 0x07, on all eight bits. -/
theorem readyReceived_answered : readyReceived (s.answered T l a r) = decide (a = .byte 0x07) := by
  rw [Bool.eq_iff_iff, decide_eq_true_iff]
  cases a <;> simp [State.answered, readyReceived, latchAfter, stateReady]

/-! ## `CHKSTATE` -/

/-- R140, R37: the comparison of a `CHKSTATE` that the host started: ready, timed out, or a wrong byte without a kind. -/
theorem lineChkEnd_host (hop : s.curOp = .chkstate) :
    lineChkEnd s = .next (finish (readyReceived s) (if s.rxTimeout then .timeout else .none)
      (if readyReceived s then setLink .ready s else s)) := by
  unfold lineChkEnd takeReady
  cases ht : s.rxTimeout with
  | true => simp [readyReceived_of_rxTimeout ht, endChkstate_host, hop]
  | false => cases readyReceived s <;> simp [endChkstate_host, hop]

/-- R140: the three micro-steps of a `CHKSTATE` that the host started. -/
theorem steps_chkstate (hr : s.runsAt .chkTx) (ho : s.isOpen = true) (hop : s.curOp = .chkstate)
    (ha : nextAnswer s.rxStream = (a, r)) :
    steps 3 s = .next
      { s with
        seq := .idle, busy := false, rxStream := r, linkState := if a = .byte 0x07 then .ready else .stateChecking,
        resOk := decide (a = .byte 0x07), resCode := if a = .timeout then .timeout else .none,
        rxb := latchAfter a s.rxb, rxTimeout := decide (a = .timeout), txStream := s.txStream ++ [0x02],
        events :=
          s.events ++ linkEvent s.linkState .stateChecking ++ [.tx 0x02, answerEvent .tShort a] ++
            (if a = .byte 0x07 then [.state .ready] else []) ++
            [.done .chkstate (decide (a = .byte 0x07)) (if a = .timeout then .timeout else .none)] } := by
  obtain ⟨hb, hm, hl⟩ := hr
  refine steps_of_line hb hm (next_of_micro (.chkTx hl ho)) ?_
  refine steps_of_line hb hm (readLatched_open .tShort .chkEnd ho ha) ?_
  refine steps_of_line hb hm (lineChkEnd_host hop) ?_
  rw [steps_zero, readyReceived_answered]
  by_cases hready : a = .byte 7#8
  · simp [hready, setLink_record, linkEvent_of_ne, State.answered, finish, emit, hop, stateRequest]
  · simp [hready, State.answered, finish, emit, hop, stateRequest]

/-- Settles O27: the start and the three micro-steps after it. -/
theorem chkstateIsOneExchange : Obligations.ChkstateIsOneExchange := by
  intro s a r hr ho ha
  refine ⟨_, exec_opCode_defined (op := .chkstate) hr.1 (by decide), ?_⟩
  have hrun := startOp_runsAt .chkstate hr
  rw [startOp_record] at hrun ⊢
  rw [steps_chkstate hrun ho rfl ha]
  cases a <;> simp [entryLink, latchAfter]

/-! ## `RESET` -/

/-- R144: the state after an iteration that the answer `a` fails. -/
def State.resetRetried (s : State) (a : Answer) (r : List Answer) : State :=
  { s with
    rxStream := r, rxb := latchAfter a s.rxb, rxTimeout := decide (a = .timeout), txStream := s.txStream ++ [0x01],
    events := s.events ++ [.tx 0x01, answerEvent .tReset a, .retry .reset] }

/-- R143: an iteration of `RESET` up to its comparison: one 0x01 sent, one answer taken. -/
theorem steps_resetExchange (hr : s.runsAt .rstTop) (ho : s.isOpen = true) (hc : s.cancel = false)
    (ha : nextAnswer s.rxStream = (a, r)) :
    steps 3 s = .next (State.answered
      { s with txStream := s.txStream ++ [0x01], events := s.events ++ [.tx 0x01] } .tReset .rstCmp a r) := by
  obtain ⟨hb, hm, hl⟩ := hr
  refine steps_of_line hb hm (next_of_micro (.rstTopGo hl hc)) ?_
  refine steps_of_line hb hm (next_of_micro (.rstTx rfl ho)) ?_
  exact steps_of_line hb hm (readLatched_open .tReset .rstCmp ho ha) rfl

/-- R143, R144: an iteration with any answer but 0x03. -/
theorem steps_resetRetry (hr : s.runsAt .rstTop) (ho : s.isOpen = true) (hc : s.cancel = false)
    (ha : nextAnswer s.rxStream = (a, r)) (hbad : a ≠ .byte 0x03) : steps 4 s = .next (s.resetRetried a r) := by
  have ⟨hb, hm, hl⟩ := hr
  rw [steps_add (steps_resetExchange hr ho hc ha) 1]
  refine steps_of_line hb hm (next_of_micro (.rstCmpRetry rfl (ackReceived_answered.trans (decide_eq_false hbad)))) ?_
  simp [State.answered, State.resetRetried, hl]

/-- R143: an iteration with the answer 0x03, of a `RESET` that the host started. -/
theorem steps_resetAcknowledged (hr : s.runsAt .rstTop) (ho : s.isOpen = true) (hc : s.cancel = false)
    (hop : s.curOp = .reset) (ha : s.rxStream = .byte 0x03 :: r) :
    steps 4 s = .next
      { s with
        seq := .idle, busy := false, rxStream := r, linkState := .addressAssigning, resOk := true, resCode := .none,
        rxb := 0x03, rxTimeout := false, txStream := s.txStream ++ [0x01],
        events := s.events ++ [.tx 0x01, .rx 0x03] ++ linkEvent s.linkState .addressAssigning ++
          [.done .reset true .none] } := by
  have ⟨hb, hm, _⟩ := hr
  rw [steps_add (steps_resetExchange hr ho hc (by rw [ha, nextAnswer_cons])) 1]
  refine steps_of_line hb hm (next_of_micro (.rstCmpAck rfl (ackReceived_answered.trans (decide_eq_true rfl)))) ?_
  rw [endReset_host (by simp [State.answered, hop]), setLink_record]
  simp [State.answered, latchAfter, answerEvent, finish, emit, hop]

/-- R144: the loop of `RESET`, by induction over the answers that fail. -/
theorem steps_resetLoop (bad : List Answer) {s : State} (hr : s.runsAt .rstTop) (ho : s.isOpen = true)
    (hc : s.cancel = false) (hop : s.curOp = .reset) (hbad : ∀ a ∈ bad, a ≠ .byte 0x03)
    (hs : s.rxStream = bad ++ .byte 0x03 :: r) :
    steps (4 * (bad.length + 1)) s = .next
      { s with
        seq := .idle, busy := false, rxStream := r, linkState := .addressAssigning, resOk := true, resCode := .none,
        rxb := 0x03, rxTimeout := false, txStream := s.txStream ++ List.replicate (bad.length + 1) 0x01,
        events :=
          s.events ++ bad.flatMap (fun a => [.tx 0x01, answerEvent .tReset a, .retry .reset]) ++ [.tx 0x01, .rx 0x03] ++
            linkEvent s.linkState .addressAssigning ++ [.done .reset true .none] } := by
  induction bad generalizing s with
  | nil => simpa using steps_resetAcknowledged hr ho hc hop hs
  | cons a bad ih =>
    have ha : nextAnswer s.rxStream = (a, bad ++ .byte 0x03 :: r) := by rw [hs]; rfl
    have hretry := steps_resetRetry hr ho hc ha (hbad a List.mem_cons_self)
    have hn : 4 * ((a :: bad).length + 1) = 4 + 4 * (bad.length + 1) := by rw [List.length_cons]; omega
    rw [hn, steps_add hretry]
    rw [ih (s := s.resetRetried a _) hr ho hc hop (fun x hx => hbad x (List.mem_cons_of_mem a hx)) rfl]
    simp [State.resetRetried, List.replicate_succ]

/-- Settles O28: the start enters the loop with `link_state = Resetting`. -/
theorem resetRetriesUntilAcknowledged : Obligations.ResetRetriesUntilAcknowledged := by
  intro s bad r hr ho hc hbad hs
  refine ⟨_, exec_opCode_defined (op := .reset) hr.1 (by decide), ?_⟩
  have hrun := startOp_runsAt .reset hr
  rw [startOp_record] at hrun ⊢
  rw [steps_resetLoop bad hrun ho hc rfl hbad hs]
  simp [entryLink, linkEvent_of_ne]

end Sys2Proof.Machine
end

section
/-! PROOFS. R175: `WRITE` tests the length first, so a frame that is too short ends it at its first label, where nothing asks
for the transport. -/

namespace Sys2Proof.Machine

variable {s : State}

/-- R174, R175: the length check is the first line of `WRITE`; on a short frame it ends the operation. -/
theorem steps_writeShort (hr : s.runsAt (firstLabel .write)) (hn : s.txLen.toNat < txMin) :
    steps 1 s = .next (finish false .frameTooShort s) := by
  obtain ⟨hb, hm, hl⟩ := hr
  exact steps_of_line hb hm (next_of_micro (.wrChkShort hl hn)) (steps_zero _)

/-- Settles O23: the start of `WRITE`, which keeps `tx_len`, and the length check after it. -/
theorem writeRefusesShortFrames : Obligations.WriteRefusesShortFrames := by
  intro s hr hn
  refine ⟨_, exec_opCode_defined (op := .write) hr.1 (by decide), ?_⟩
  have hrun := startOp_runsAt .write hr
  rw [startOp_record] at hrun ⊢
  rw [steps_writeShort hrun hn]
  simp [entryLink, finish, emit]

end Sys2Proof.Machine
end

section
/-! PROOFS. What the engine's micro-step writes, register by register: the operands and the inputs never, the receive buffer by
`push` or by the failing end of a `DECODE`, the results by `finish`. -/

namespace Sys2Proof.Machine

variable {s t u : State}

/-! ## What no line writes -/

/-- R27, R32, R34, R39: the operands, the inputs and the parameters are the same in both states. -/
structure SameInputs (s t : State) : Prop where
  txb : t.txb = s.txb
  txLen : t.txLen = s.txLen
  chkIn : t.chkIn = s.chkIn
  epoch : t.epoch = s.epoch
  ia : t.ia = s.ia
  cancel : t.cancel = s.cancel
  isOpen : t.isOpen = s.isOpen
  siaEcho1 : t.siaEcho1 = s.siaEcho1
  siaEcho2 : t.siaEcho2 = s.siaEcho2

/-- R27, R32, R39: no line writes them. -/
theorem Micro.sameInputs (h : Micro s t) : SameInputs s t := by
  cases h <;> constructor <;> simp

/-- R50: so every byte of `TXB` reads as before. -/
theorem SameInputs.txbByte (h : SameInputs s t) (a : Nat) : t.txbByte a = s.txbByte a := by
  rw [State.txbByte, State.txbByte, h.txb, h.epoch]

/-- R50: and so does every run of its first bytes. -/
theorem SameInputs.txbytes (h : SameInputs s t) (n : Nat) : t.txbytes n = s.txbytes n :=
  List.map_congr_left fun a _ => h.txbByte a

/-! ## The receive buffer -/

/-- R121: `t` is `s` with `b` pushed, as far as the receive buffer and the accumulator go. -/
structure Pushed (s t : State) (b : Byte) : Prop where
  room : s.rxLen.toNat < rxMax
  rxbuf : t.rxbuf = Memory.write s.rxbuf s.rxLen.toNat b
  rxbEpoch : t.rxbEpoch = s.rxbEpoch
  rxLen : t.rxLen = s.rxLen + 1
  acc : t.acc = s.acc ^^^ b

variable {b : Byte}

/-- R121: one byte more is counted. -/
theorem Pushed.toNat_rxLen (h : Pushed s t b) : t.rxLen.toNat = s.rxLen.toNat + 1 := by
  rw [h.rxLen, rxLen_add_one h.room]

/-- R121: the byte is stored behind the others. -/
theorem Pushed.rxbByte (h : Pushed s t b) (a : Nat) :
    t.rxbByte a = if a = s.rxLen.toNat then b else s.rxbByte a := by
  rw [← rxbByte_push, State.rxbByte, h.rxbuf, h.rxbEpoch]
  rfl

/-- R121: the bytes stored before read as before. -/
theorem Pushed.rxbByte_of_lt (h : Pushed s t b) {a : Nat} (ha : a < s.rxLen.toNat) : t.rxbByte a = s.rxbByte a := by
  rw [h.rxbByte, if_neg ha.ne]

/-- R30, R121: the received frame is one byte longer. -/
theorem Pushed.rxFrame (h : Pushed s t b) : t.rxFrame = s.rxFrame ++ [b] := by
  rw [State.rxFrame, h.toNat_rxLen, List.range_succ, List.map_append, List.map_singleton, h.rxbByte, if_pos rfl]
  exact congrArg (· ++ [b]) (List.map_congr_left fun a ha => h.rxbByte_of_lt (List.mem_range.mp ha))

/-- R112, R121: a pushed byte is absorbed too. -/
theorem Pushed.acc_eq_cs (h : Pushed s t b) (hacc : s.acc = cs s.rxFrame) : t.acc = cs t.rxFrame := by
  rw [h.acc, h.rxFrame, cs_concat, hacc]

/-- R51, R121, R127: what a line does to the receive buffer. -/
inductive ReceiveStep (s t : State) : Prop where
  /-- Nothing. -/
  | kept (hbuf : t.rxbuf = s.rxbuf) (hepoch : t.rxbEpoch = s.rxbEpoch) (hlen : t.rxLen = s.rxLen)
  /-- R120: `DEC_CTRL` empties it. -/
  | emptied (hbuf : t.rxbuf = s.rxbuf) (hepoch : t.rxbEpoch = s.rxbEpoch) (hlen : t.rxLen = 0)
  /-- R121: `DECODE` pushes a byte. -/
  | pushed (b : Byte) (hl : owner s.seq = .decode) (h : Pushed s t b)
  /-- R127: `DECODE` fails. -/
  | failed (hl : owner s.seq = .decode) (hseq : t.seq = .rdSw) (hret : t.retOk = false) (hbuf : t.rxbuf = [])
      (hlen : t.rxLen = 0)

/-- R51: one of these is what each line does. -/
theorem Micro.receiveStep (h : Micro s t) : ReceiveStep s t := by
  cases h with
  | decCtrlByte => exact .emptied rfl rfl rfl
  | decClsCtrl b hl hb hc hroom => exact .pushed b (by rw [hl]; rfl) ⟨hroom, rfl, rfl, rfl, rfl⟩
  | decAddrMore b r hl ho hr hroom => exact .pushed b (by rw [hl]; rfl) ⟨hroom, rfl, rfl, rfl, rfl⟩
  | decAddrLast b r hl ho hr hroom => exact .pushed b (by rw [hl]; rfl) ⟨hroom, rfl, rfl, rfl, rfl⟩
  | decLenByte b r hl ho hr hroom => exact .pushed b (by rw [hl]; rfl) ⟨hroom, rfl, rfl, rfl, rfl⟩
  | decPayMore b r hl ho hr hroom => exact .pushed b (by rw [hl]; rfl) ⟨hroom, rfl, rfl, rfl, rfl⟩
  | decPayLast b r hl ho hr hroom => exact .pushed b (by rw [hl]; rfl) ⟨hroom, rfl, rfl, rfl, rfl⟩
  | decCtrlTimeout r hl | decAddrTimeout r hl | decLenTimeout r hl | decPayTimeout r hl | decChkTimeout r hl =>
    exact .failed (by rw [hl]; rfl) rfl rfl rfl rfl
  | decClsLost hl | decClsNeg hl | decClsPos hl | decClsOther hl | decVfyBad hl =>
    exact .failed (by rw [hl]; rfl) rfl rfl rfl rfl
  | _ => exact .kept (by simp) (by simp) (by simp)

/-! ## The results -/

/-- R36, R205: the operation goes on from `s` to `t` with its results unwritten and some events more. -/
structure GoesOn (s t : State) : Prop where
  resOk : t.resOk = s.resOk
  resCode : t.resCode = s.resCode
  curOp : t.curOp = s.curOp
  busy : t.busy = s.busy
  events : ∃ es, t.events = s.events ++ es

/-- R36, R37, R190: what a line does to the results: nothing, or it ends the operation by `finish`, with the kind `None` or the
pair that `DECODE` returned. -/
inductive ResultStep (s : State) : State → Prop where
  | kept {t : State} (h : GoesOn s t) : ResultStep s t
  | finished {u : State} (ok : Bool) (c : ResCode) (h : GoesOn s u)
      (hkind : ok = true → c = .none ∨ (s.retOk = true ∧ c = s.retCode)) : ResultStep s (finish ok c u)

theorem GoesOn.refl (s : State) : GoesOn s s := ⟨rfl, rfl, rfl, rfl, [], by simp⟩

theorem GoesOn.setLink (v : LinkState) (s : State) : GoesOn s (setLink v s) :=
  ⟨by simp, by simp, by simp, by simp, _, setLink_events s v⟩

theorem GoesOn.returnSub (h : GoesOn s t) (ok : Bool) (c : ResCode) (l : Label) : GoesOn s (returnSub ok c l t) :=
  ⟨h.resOk, h.resCode, h.curOp, h.busy, h.events⟩

/-- R24, R190: the end of a `RESET`. -/
theorem GoesOn.endReset (h : GoesOn s t) {ok : Bool} {c : ResCode} (hkind : ok = true → c = .none) :
    ResultStep s (endReset ok c t) := by
  rcases endReset_cases ok c t with ⟨-, -, he⟩ | ⟨-, -, he⟩ | ⟨-, he⟩ <;> rw [he]
  · exact .finished _ _ (h.returnSub _ _ _) (by simp)
  · exact .kept (h.returnSub _ _ _)
  · exact .finished _ _ h fun hok => .inl (hkind hok)

/-- R24, R190: the end of a `SETADDR`. -/
theorem GoesOn.endSetaddr (h : GoesOn s t) {ok : Bool} {c : ResCode} (hkind : ok = true → c = .none) :
    ResultStep s (endSetaddr ok c t) := by
  rcases endSetaddr_cases ok c t with ⟨-, -, he⟩ | ⟨-, -, he⟩ | ⟨-, he⟩ <;> rw [he]
  · exact .finished _ _ (h.returnSub _ _ _) (by simp)
  · exact .kept (h.returnSub _ _ _)
  · exact .finished _ _ h fun hok => .inl (hkind hok)

/-- R24, R190: the end of a `CHKSTATE`. -/
theorem GoesOn.endChkstate (h : GoesOn s t) {ok : Bool} {c : ResCode} (hkind : ok = true → c = .none) :
    ResultStep s (endChkstate ok c t) := by
  rcases endChkstate_cases ok c t with ⟨-, he⟩ | ⟨-, he⟩ | ⟨-, -, he⟩ <;> rw [he]
  · exact .kept (h.returnSub _ _ _)
  · exact .kept ⟨h.resOk, h.resCode, h.curOp, h.busy, h.events⟩
  · exact .finished _ _ h fun hok => .inl (hkind hok)

/-- R190: one of the two is what each line does. -/
theorem Micro.resultStep (h : Micro s t) : ResultStep s t := by
  cases h with
  | csuEnd | iniEndOk | verEnd => exact .finished _ _ (.refl s) fun _ => .inl rfl
  | iniTopCancel | wrChkShort => exact .finished _ _ (.refl s) (by simp)
  | iniOpenNo => exact .finished _ _ ⟨rfl, rfl, rfl, rfl, _, rfl⟩ (by simp)
  | wrCs => exact .finished _ _ ⟨rfl, rfl, rfl, rfl, _, rfl⟩ fun _ => .inl rfl
  | rdEnd => exact .finished _ _ (.refl s) fun hok => .inr ⟨hok, rfl⟩
  | rstTopCancel => exact (GoesOn.refl s).endReset (by simp)
  | rstCmpAck => exact (GoesOn.setLink _ s).endReset fun _ => rfl
  | siaTopCancel => exact (GoesOn.refl s).endSetaddr (by simp)
  | sia6cMatch => exact (GoesOn.setLink _ s).endSetaddr fun _ => rfl
  | chkEndReady => exact (GoesOn.setLink _ s).endChkstate fun _ => rfl
  | chkEndTimeout | chkEndWrong => exact (GoesOn.refl s).endChkstate (by simp)
  | _ => exact .kept ⟨by simp, by simp, by simp, by simp, by simp⟩

end Sys2Proof.Machine
end

section
/-! PROOFS. R22, R24, R30, R35, R37, R50, R51, R117: the invariant holds at reset and every step keeps it. The engine's part is
shown field by field, over the lines that write the field; the counters are shown at the labels that have a fact about them. -/

namespace Sys2Proof.Machine

variable {s t : State}

/-! ## The end of an operation or a sub-operation -/

/-- R35, R24: where an operation or a sub-operation ends, the block is idle or goes on at a label of the caller. -/
theorem endReset_busy_iff (ok : Bool) (c : ResCode) (hb : s.busy = true) :
    (endReset ok c s).busy = true ↔ (endReset ok c s).seq ≠ .idle := by
  rcases endReset_cases ok c s with ⟨-, -, he⟩ | ⟨-, -, he⟩ | ⟨-, he⟩ <;> simp [he, hb]

theorem endSetaddr_busy_iff (ok : Bool) (c : ResCode) (hb : s.busy = true) :
    (endSetaddr ok c s).busy = true ↔ (endSetaddr ok c s).seq ≠ .idle := by
  rcases endSetaddr_cases ok c s with ⟨-, -, he⟩ | ⟨-, -, he⟩ | ⟨-, he⟩ <;> simp [he, hb]

theorem endChkstate_busy_iff (ok : Bool) (c : ResCode) (hb : s.busy = true) :
    (endChkstate ok c s).busy = true ↔ (endChkstate ok c s).seq ≠ .idle := by
  rcases endChkstate_cases ok c s with ⟨-, he⟩ | ⟨-, he⟩ | ⟨-, -, he⟩ <;> simp [he, hb]

/-- R24, R26: after such an end an operation that still runs is the caller. -/
theorem endReset_opFits {ok : Bool} {c : ResCode} (hb : (endReset ok c s).busy = true) :
    opFits (endReset ok c s).curOp (endReset ok c s).seq = true := by
  rcases endReset_cases ok c s with ⟨-, -, he⟩ | ⟨hop, -, he⟩ | ⟨-, he⟩ <;> simp_all [opFits, owner]

theorem endSetaddr_opFits {ok : Bool} {c : ResCode} (hb : (endSetaddr ok c s).busy = true) :
    opFits (endSetaddr ok c s).curOp (endSetaddr ok c s).seq = true := by
  rcases endSetaddr_cases ok c s with ⟨-, -, he⟩ | ⟨hop, -, he⟩ | ⟨-, he⟩ <;> simp_all [opFits, owner]

theorem endChkstate_opFits {ok : Bool} {c : ResCode} (hb : (endChkstate ok c s).busy = true) :
    opFits (endChkstate ok c s).curOp (endChkstate ok c s).seq = true := by
  rcases endChkstate_cases ok c s with ⟨hop, he⟩ | ⟨hop, he⟩ | ⟨-, -, he⟩ <;> simp_all [opFits, owner]

/-- R37: what such an end returns to the caller has no error kind beside success. -/
theorem endReset_ret_none {ok : Bool} {c : ResCode} (hkind : ok = true → c = .none)
    (hret : s.retOk = true → s.retCode = .none) :
    (endReset ok c s).retOk = true → (endReset ok c s).retCode = .none := by
  rcases endReset_cases ok c s with ⟨-, -, he⟩ | ⟨-, -, he⟩ | ⟨-, he⟩ <;> rw [he] <;> assumption

theorem endSetaddr_ret_none {ok : Bool} {c : ResCode} (hkind : ok = true → c = .none)
    (hret : s.retOk = true → s.retCode = .none) :
    (endSetaddr ok c s).retOk = true → (endSetaddr ok c s).retCode = .none := by
  rcases endSetaddr_cases ok c s with ⟨-, -, he⟩ | ⟨-, -, he⟩ | ⟨-, he⟩ <;> rw [he] <;> assumption

theorem endChkstate_ret_none {ok : Bool} {c : ResCode} (hkind : ok = true → c = .none)
    (hret : s.retOk = true → s.retCode = .none) :
    (endChkstate ok c s).retOk = true → (endChkstate ok c s).retCode = .none := by
  rcases endChkstate_cases ok c s with ⟨-, he⟩ | ⟨-, he⟩ | ⟨-, -, he⟩ <;> rw [he] <;> assumption

/-! ## The fields of the invariant, over the lines -/

/-- R22, R35: the block becomes idle exactly where `busy` falls. -/
theorem Micro.busy_iff (h : Micro s t) (hb : s.busy = true) (hl : s.seq ≠ .idle) : t.busy = true ↔ t.seq ≠ .idle := by
  cases h with
  | idle hidle => exact absurd hidle hl
  | rstTopCancel | rstCmpAck => exact endReset_busy_iff _ _ (by simpa using hb)
  | siaTopCancel | sia6cMatch => exact endSetaddr_busy_iff _ _ (by simpa using hb)
  | chkEndReady | chkEndTimeout | chkEndWrong => exact endChkstate_busy_iff _ _ (by simpa using hb)
  | _ => simp [hb]

/-- R24, R26: `cur_op` fits the next label, of the same operation or of one that it calls. -/
theorem Micro.opFits_next (h : Micro s t) (hfits : opFits s.curOp s.seq = true) (hb : t.busy = true) :
    opFits t.curOp t.seq = true := by
  cases h with
  | rstTopCancel | rstCmpAck => exact endReset_opFits hb
  | siaTopCancel | sia6cMatch => exact endSetaddr_opFits hb
  | chkEndReady | chkEndTimeout | chkEndWrong => exact endChkstate_opFits hb
  | _ => simp_all [opFits, owner]

/-- R37: the pair held for the caller has no error kind beside success. -/
theorem Micro.ret_none (h : Micro s t) (hret : s.retOk = true → s.retCode = .none) :
    t.retOk = true → t.retCode = .none := by
  cases h with
  | rstTopCancel => exact endReset_ret_none (by simp) hret
  | rstCmpAck => exact endReset_ret_none (fun _ => rfl) (by simpa using hret)
  | siaTopCancel => exact endSetaddr_ret_none (by simp) hret
  | sia6cMatch => exact endSetaddr_ret_none (fun _ => rfl) (by simpa using hret)
  | chkEndReady => exact endChkstate_ret_none (fun _ => rfl) (by simpa using hret)
  | chkEndTimeout | chkEndWrong => exact endChkstate_ret_none (by simp) hret
  | decCtrlTimeout | decAddrTimeout | decLenTimeout | decPayTimeout | decChkTimeout => simp
  | decClsLost | decClsNeg | decClsPos | decClsOther | decVfyOk | decVfyBad => simp
  | _ => exact hret

/-- R37: the results have no error kind beside success. -/
theorem ResultStep.res_none (h : ResultStep s t) (hres : s.resOk = true → s.resCode = .none)
    (hret : s.retOk = true → s.retCode = .none) : t.resOk = true → t.resCode = .none := by
  cases h with
  | kept h => rw [h.resOk, h.resCode]; exact hres
  | finished ok c h hkind =>
    intro hok
    rcases hkind hok with hc | ⟨hr, hc⟩
    · exact hc
    · exact hc.trans (hret hr)

/-- R51: the receive buffer stays in canonical form. -/
theorem ReceiveStep.rxbuf_wf (h : ReceiveStep s t) (hwf : Memory.wf rxMax s.rxbuf = true) :
    Memory.wf rxMax t.rxbuf = true := by
  cases h with
  | kept hbuf | emptied hbuf => rw [hbuf]; exact hwf
  | pushed b _ h => rw [h.rxbuf]; exact Memory.wf_write hwf h.room
  | failed _ _ _ hbuf => rw [hbuf]; exact Memory.wf_nil rxMax

/-- R30: `rx_len` stays inside the buffer. -/
theorem ReceiveStep.rxLen_le (h : ReceiveStep s t) (hle : s.rxLen.toNat ≤ rxMax) : t.rxLen.toNat ≤ rxMax := by
  cases h with
  | kept _ _ hlen => rw [hlen]; exact hle
  | emptied _ _ hlen | failed _ _ _ _ hlen => rw [hlen]; exact Nat.zero_le _
  | pushed b _ h => rw [h.toNat_rxLen]; exact h.room

/-! ## The counters -/

/-- The labels at which the invariant says nothing of a counter. -/
def Label.countsNothing : Label → Bool
  | .csuLoop | .verLoop | .wrPfx | .wrDat | .wrEnd | .wrCs => false
  | .decCls | .decAddr | .decLen | .decPay | .decChk | .decVfy => false
  | .rdSw | .rdEnd | .rdLost | .chkTx | .chkRx | .chkEnd => false
  | _ => true

theorem labelFacts_of_countsNothing (h : s.seq.countsNothing = true) : labelFacts s := by
  unfold labelFacts
  cases hl : s.seq <;> simp_all [Label.countsNothing]

theorem endReset_countsNothing (ok : Bool) (c : ResCode) (s : State) : (endReset ok c s).seq.countsNothing = true := by
  rcases endReset_cases ok c s with ⟨-, -, he⟩ | ⟨-, -, he⟩ | ⟨-, he⟩ <;> rw [he] <;> rfl

theorem endSetaddr_countsNothing (ok : Bool) (c : ResCode) (s : State) :
    (endSetaddr ok c s).seq.countsNothing = true := by
  rcases endSetaddr_cases ok c s with ⟨-, -, he⟩ | ⟨-, -, he⟩ | ⟨-, he⟩ <;> rw [he] <;> rfl

/-- R170: a `CHKSTATE` that `READ` called returns with an empty receive buffer. -/
theorem endChkstate_labelFacts (ok : Bool) (c : ResCode) (h : s.curOp = .read → s.retOk = false ∧ s.rxLen = 0) :
    labelFacts (endChkstate ok c s) := by
  rcases endChkstate_cases ok c s with ⟨-, he⟩ | ⟨hop, he⟩ | ⟨-, -, he⟩ <;> rw [he]
  · exact labelFacts_of_countsNothing rfl
  · obtain ⟨hret, hlen⟩ := h hop
    simpa [labelFacts, hret] using hlen
  · exact labelFacts_of_countsNothing rfl

/-- R117, R120, R124: the remaining count of a loop of `DECODE` that goes on. -/
theorem two_le_cnt {c : BitVec 5} (h : 1 ≤ c.toNat) (hc : c - 1 ≠ 0) : 2 ≤ c.toNat := by
  rw [Ne, cnt_eq_zero, cnt_sub_one h] at hc
  omega

/-- R117, R120, R124: the remaining count of a loop of `DECODE` that ends. -/
theorem cnt_eq_one {c : BitVec 5} (h : 1 ≤ c.toNat) (hc : c - 1 = 0) : c.toNat = 1 := by
  rw [cnt_eq_zero, cnt_sub_one h] at hc
  omega

/-- R22, R30, R117, R120, R124, R170, R174: the counters are at the next label what it wants them to be. -/
theorem Micro.labelFacts_next (h : Micro s t) (hi : Inv s) (hb : s.busy = true) : labelFacts t := by
  have here := hi.here
  have hfits := hi.op_fits hb
  unfold labelFacts at here
  cases h with
  | idle hl | csuDone hl | verDone hl => simp_all [labelFacts]
  | csuInit | verInit => exact Nat.zero_le _
  | csuMore hl hlt | verMore hl hlt => exact (idx_add_one hlt).trans_le hlt
  | rstTopCancel | rstCmpAck => exact labelFacts_of_countsNothing (endReset_countsNothing _ _ _)
  | siaTopCancel | sia6cMatch => exact labelFacts_of_countsNothing (endSetaddr_countsNothing _ _ _)
  | chkTx hl | chkRxTimeout r hl | chkRxByte b r hl => simpa [labelFacts, hl] using here
  | chkEndReady hl | chkEndTimeout hl | chkEndWrong hl =>
    rw [hl] at here
    exact endChkstate_labelFacts _ _ (by simpa using here)
  | iniChk hl => simp_all [opFits, owner, labelFacts]
  | rdSwLost hl hc =>
    rw [hl] at here
    have hret : s.retOk ≠ true := fun hret => by simp [hi.ret_none hret] at hc
    exact ⟨Bool.eq_false_iff.mpr hret, (if_neg hret).mp here⟩
  | rdSwEnd hl => simpa [labelFacts, hl] using here
  | rdLost hl => exact fun _ => by simpa [hl] using here
  | decCtrlTimeout | decAddrTimeout | decLenTimeout | decPayTimeout | decChkTimeout => exact rfl
  | decClsLost | decClsNeg | decClsPos | decClsOther | decVfyBad => exact rfl
  | decCtrlByte => exact rfl
  | decClsCtrl b hl =>
    rw [hl] at here
    simp [labelFacts, here]
  | decAddrMore b r hl ho hr hroom hc =>
    rw [hl] at here
    obtain ⟨hcnt, hlen, hsum⟩ := here
    have := two_le_cnt hcnt hc
    simp only [labelFacts, cnt_sub_one hcnt, rxLen_add_one hroom]
    omega
  | decAddrLast b r hl ho hr hroom hc =>
    rw [hl] at here
    obtain ⟨hcnt, hlen, hsum⟩ := here
    have := cnt_eq_one hcnt hc
    simp only [labelFacts, rxLen_add_one hroom]
    omega
  | decLenByte b r hl ho hr hroom =>
    rw [hl] at here
    have := payloadCount_bounds b
    simp only [labelFacts, rxLen_add_one hroom, here, hdrLen, rxMax]
    omega
  | decPayMore b r hl ho hr hroom hc =>
    rw [hl] at here
    obtain ⟨hcnt, hlen, hsum⟩ := here
    have := two_le_cnt hcnt hc
    simp only [labelFacts, cnt_sub_one hcnt, rxLen_add_one hroom]
    omega
  | decPayLast b r hl ho hr hroom hc =>
    rw [hl] at here
    obtain ⟨hcnt, hlen, hsum⟩ := here
    simp only [labelFacts, rxLen_add_one hroom]
    omega
  | decChkByte b r hl => simpa [labelFacts, hl] using here
  | decVfyOk hl => simpa [labelFacts, hl] using here
  | wrChkGo hl hn => exact ⟨hn, by simp only [txMin] at hn; simp; omega⟩
  | wrPfx hl => simpa [labelFacts, hl] using here
  | wrDatMore hl ho hlt hn => rw [hl] at here; exact ⟨here.1, hn⟩
  | wrDatLast hl => rw [hl] at here; exact here.1
  | wrEnd hl ho hn => exact hn
  | _ => exact labelFacts_of_countsNothing rfl

/-! ## The step -/

/-- R22 to R51: the engine's line keeps the invariant. -/
theorem Micro.inv (h : Micro s t) (hi : Inv s) (hb : s.busy = true) : Inv t where
  busy_iff := h.busy_iff hb (hi.busy_iff.mp hb)
  op_fits := h.opFits_next (hi.op_fits hb)
  txb_wf := by rw [h.sameInputs.txb]; exact hi.txb_wf
  rxbuf_wf := h.receiveStep.rxbuf_wf hi.rxbuf_wf
  rxLen_le := h.receiveStep.rxLen_le hi.rxLen_le
  res_none := h.resultStep.res_none hi.res_none hi.ret_none
  ret_none := h.ret_none hi.ret_none
  echoes := by rw [h.sameInputs.siaEcho1, h.sameInputs.siaEcho2]; exact hi.echoes
  here := h.labelFacts_next hi hb

/-- R35: an idle block is at `IDLE`. -/
theorem Inv.seq_of_idle (hi : Inv s) (hb : s.busy = false) : s.seq = .idle :=
  not_not.mp fun hl => by simp [hi.busy_iff.mpr hl] at hb

/-- An idle block whose operands and receive side are in order meets the invariant. -/
theorem inv_of_idle (hb : s.busy = false) (hl : s.seq = .idle) (htxb : Memory.wf txMax s.txb = true)
    (hrxbuf : Memory.wf rxMax s.rxbuf = true) (hlen : s.rxLen.toNat ≤ rxMax) (hres : s.resOk = true → s.resCode = .none)
    (hret : s.retOk = true → s.retCode = .none) (hechoes : s.siaEcho1 ≠ s.siaEcho2) : Inv s where
  busy_iff := by simp [hb, hl]
  op_fits := by simp [hb]
  txb_wf := htxb
  rxbuf_wf := hrxbuf
  rxLen_le := hlen
  res_none := hres
  ret_none := hret
  echoes := hechoes
  here := labelFacts_of_countsNothing (by rw [hl]; rfl)

/-- R23, R26: an operation that starts fits its first label, which is not `IDLE`. -/
theorem opFits_firstLabel {op : HostOp} (hop : op ≠ .nop) : opFits op (firstLabel op) = true := by
  cases op
  case nop => exact absurd rfl hop
  all_goals rfl

theorem firstLabel_ne_idle {op : HostOp} (hop : op ≠ .nop) : firstLabel op ≠ .idle := by
  cases op <;> simp_all [firstLabel]

/-- R22 to R51: the moves of the host, the platform and the transport keep the invariant. -/
theorem HostStep.inv {x : HostMove} (h : HostStep s x t) (hi : Inv s) : Inv t := by
  obtain ⟨hbusy, hfits, htxb, hrxbuf, hlen, hres, hret, hechoes, here⟩ := id hi
  cases h with
  | started op hb hop =>
    refine ⟨by simp [firstLabel_ne_idle hop], fun _ => opFits_firstLabel hop, htxb, hrxbuf, hlen, hres, hret, hechoes, ?_⟩
    cases op <;> simp [labelFacts, firstLabel]
  | rejected c hb => exact ⟨hbusy, hfits, htxb, hrxbuf, hlen, by simp, hret, hechoes, here⟩
  | txb i b hb => exact ⟨hbusy, hfits, Memory.wf_write htxb i.isLt, hrxbuf, hlen, hres, hret, hechoes, here⟩
  | txLen n hb => exact inv_of_idle hb (hi.seq_of_idle hb) htxb hrxbuf hlen hres hret hechoes
  | hwReset => exact inv_of_idle (s := Machine.hwReset s) rfl rfl rfl rfl (Nat.zero_le _) nofun nofun hechoes
  | _ => exact ⟨hbusy, hfits, htxb, hrxbuf, hlen, hres, hret, hechoes, here⟩

/-- The invariant does not look at the pending moves. -/
theorem Inv.moves (hi : Inv s) (m : List HostMove) : Inv { s with moves := m } :=
  ⟨hi.busy_iff, hi.op_fits, hi.txb_wf, hi.rxbuf_wf, hi.rxLen_le, hi.res_none, hi.ret_none, hi.echoes, hi.here⟩

/-- Settles O40: the engine's line keeps each field, and so does every other move. -/
theorem everyStepKeepsTheInvariant : Obligations.EveryStepKeepsTheInvariant := by
  intro s t hi hs
  rcases next_cases hs with ⟨-, hb, m, -, h⟩ | ⟨-, -, m, -, rfl⟩ | ⟨-, x, m, -, h⟩
  · exact h.inv (hi.moves m) hb
  · exact hi.moves m
  · exact h.inv (hi.moves m)

/-- R149: the free parameters are chosen different. -/
theorem siaEcho2_ne : Config.siaEcho1 ≠ Config.siaEcho2 := by
  have := Config.siaEchoGap.isLt
  rw [Config.siaEcho2]
  bv_omega

/-- Settles O39: after reset the block is idle and its buffers are empty. -/
theorem invariantAtReset : Obligations.InvariantAtReset :=
  inv_of_idle (s := State.reset) rfl rfl rfl rfl (Nat.zero_le _) nofun nofun siaEcho2_ne

end Sys2Proof.Machine
end

section
/-! PROOFS. R112, R125, R126, R174: every step keeps what the accumulator and the received frame hold at a label. The two loops
over `TXB` absorb the byte they count; every byte that `DECODE` pushes is absorbed, and the control field and the length byte
stay where they were stored. -/

namespace Sys2Proof.Machine

variable {s t : State} {b : Byte}

/-- The labels at which nothing is said of the accumulator and the received frame. -/
def Label.holdsNothing : Label → Bool
  | .csuLoop | .csuEnd | .verLoop | .verEnd | .wrPfx | .wrDat | .wrEnd | .wrCs => false
  | .decCls | .decAddr | .decLen | .decPay | .decChk | .decVfy | .rdSw | .rdEnd => false
  | _ => true

theorem frameInv_of_holdsNothing (h : s.seq.holdsNothing = true) : FrameInv s := by
  unfold FrameInv
  cases hl : s.seq <;> simp_all [Label.holdsNothing]

/-! ## The fold over `TXB` -/

/-- R112: the accumulator with the next byte of `TXB` absorbed. -/
theorem cs_txbytes_idx_succ (hacc : s.acc = cs (s.txbytes s.idx.toNat)) (hlt : s.idx.toNat < s.txLen.toNat) :
    s.acc ^^^ s.txbByte s.idx.toNat = cs (s.txbytes (s.idx + 1).toNat) := by
  rw [idx_add_one hlt, txbytes_succ, cs_concat, hacc]

/-- R113, R174: at the end of the frame every byte of it is absorbed. -/
theorem cs_txFrame_of_idx (hacc : s.acc = cs (s.txbytes s.idx.toNat)) (hidx : s.idx.toNat = s.txLen.toNat) :
    s.acc = cs s.txFrame := by
  rw [State.txFrame, ← hidx, hacc]

/-! ## The received frame -/

/-- R112, R120: what is received of a frame so far: the accumulator is its checksum and it begins with a control field. -/
def ReceivedSoFar (s : State) : Prop := s.acc = cs s.rxFrame ∧ isCtrl (s.rxbByte 0) = true

/-- R124: from the length byte on, what is received and what is left is the length that the length byte says. -/
def ReceivedCounted (s : State) : Prop :=
  s.acc = cs s.rxFrame ∧ isCtrl (s.rxbByte 0) = true ∧
    s.rxLen.toNat + s.cnt.toNat = hdrLen + (payloadCount (s.rxbByte 5)).toNat

/-- R120: the control field is the first byte pushed. -/
theorem Pushed.receivedSoFar_first (h : Pushed s t b) (hacc : s.acc = csSeed) (hlen : s.rxLen = 0)
    (hb : isCtrl b = true) : ReceivedSoFar t := by
  refine ⟨h.acc_eq_cs ?acc, ?ctrl⟩
  case acc => rw [State.rxFrame, hlen, hacc]; rfl
  case ctrl => rwa [h.rxbByte, hlen, if_pos (by rfl)]

/-- R120: a byte pushed behind it. -/
theorem Pushed.receivedSoFar (h : Pushed s t b) (hs : ReceivedSoFar s) (hlen : 1 ≤ s.rxLen.toNat) : ReceivedSoFar t :=
  ⟨h.acc_eq_cs hs.1, by rw [h.rxbByte_of_lt hlen]; exact hs.2⟩

/-- R124: the length byte pushed and the payload counted. -/
theorem Pushed.receivedCounted_first (h : Pushed s t b) (hs : ReceivedSoFar s) (hlen : s.rxLen.toNat = 5)
    (hcnt : t.cnt = payloadCount b) : ReceivedCounted t := by
  obtain ⟨hacc, hctrl⟩ := h.receivedSoFar hs (by omega)
  refine ⟨hacc, hctrl, ?_⟩
  rw [h.toNat_rxLen, h.rxbByte, if_pos hlen.symm, hlen, hcnt]
  rfl

/-- R124: a payload byte pushed and counted. -/
theorem Pushed.receivedCounted (h : Pushed s t b) (hs : ReceivedCounted s) (hhdr : hdrLen ≤ s.rxLen.toNat)
    (hpos : 1 ≤ s.cnt.toNat) (hcnt : t.cnt = s.cnt - 1) : ReceivedCounted t := by
  obtain ⟨hacc, hctrl, hlen⟩ := hs
  have hrest : 5 < s.rxLen.toNat := hhdr
  obtain ⟨hacc', hctrl'⟩ := h.receivedSoFar ⟨hacc, hctrl⟩ (by omega)
  refine ⟨hacc', hctrl', ?_⟩
  rw [h.toNat_rxLen, h.rxbByte_of_lt hrest, ← hlen, hcnt, cnt_sub_one hpos]
  omega

/-! ## The frame invariant at the labels of `DECODE` -/

theorem frameInv_of_receivedSoFar (h : ReceivedSoFar s) (hl : s.seq = .decAddr ∨ s.seq = .decLen) : FrameInv s := by
  unfold FrameInv
  rcases hl with hl | hl <;> rw [hl] <;> exact h

theorem frameInv_of_receivedCounted (h : ReceivedCounted s) (hl : s.seq = .decPay) : FrameInv s := by
  unfold FrameInv
  rw [hl]
  exact h

/-- R126: with nothing left the frame is received as a whole. -/
theorem frameInv_of_receivedWhole (h : ReceivedCounted s) (hcnt : s.cnt = 0) (hl : s.seq = .decChk) : FrameInv s := by
  unfold FrameInv
  rw [hl]
  simpa [ReceivedCounted, hcnt] using h

/-- R170: what a `DECODE` returned without success says nothing of a frame. -/
theorem frameInv_of_not_retOk (hl : s.seq = .rdSw ∨ s.seq = .rdEnd) (hret : s.retOk = false) : FrameInv s := by
  unfold FrameInv
  rcases hl with hl | hl <;> simp [hl, hret]

/-! ## The ends -/

theorem endReset_holdsNothing (ok : Bool) (c : ResCode) (s : State) : (endReset ok c s).seq.holdsNothing = true := by
  rcases endReset_cases ok c s with ⟨-, -, he⟩ | ⟨-, -, he⟩ | ⟨-, he⟩ <;> rw [he] <;> rfl

theorem endSetaddr_holdsNothing (ok : Bool) (c : ResCode) (s : State) :
    (endSetaddr ok c s).seq.holdsNothing = true := by
  rcases endSetaddr_cases ok c s with ⟨-, -, he⟩ | ⟨-, -, he⟩ | ⟨-, he⟩ <;> rw [he] <;> rfl

/-- R170, R171: a `CHKSTATE` that `READ` called after a failed `DECODE`. -/
theorem endChkstate_frameInv (ok : Bool) (c : ResCode) (h : s.curOp = .read → s.retOk = false) :
    FrameInv (endChkstate ok c s) := by
  rcases endChkstate_cases ok c s with ⟨-, he⟩ | ⟨hop, he⟩ | ⟨-, -, he⟩ <;> rw [he]
  · exact frameInv_of_holdsNothing rfl
  · exact frameInv_of_not_retOk (.inr rfl) (h hop)
  · exact frameInv_of_holdsNothing rfl

/-! ## The step -/

/-- R112, R125, R126, R174: the engine's line. -/
theorem Micro.frameInv (h : Micro s t) (hi : Inv s) (hf : FrameInv s) : FrameInv t := by
  have here := hi.here
  have hheld := hf
  unfold labelFacts at here
  unfold FrameInv at hheld
  cases h with
  | idle => exact hf
  | csuInit | verInit | wrChkGo => exact rfl
  | csuMore hl hlt | verMore hl hlt => rw [hl] at hheld; exact cs_txbytes_idx_succ hheld hlt
  | csuDone hl hge | verDone hl hge =>
    rw [hl] at hheld here
    exact cs_txFrame_of_idx hheld (Nat.le_antisymm here hge)
  | wrDatMore hl =>
    rw [hl] at hheld here
    exact cs_txbytes_idx_succ hheld here.2
  | wrDatLast hl ho hlt hge =>
    rw [hl] at hheld here
    have hend : (s.idx + 1).toNat = s.txLen.toNat := Nat.le_antisymm ((idx_add_one here.2).trans_le here.2) hge
    exact (cs_txbytes_idx_succ hheld here.2).trans (by rw [hend]; rfl)
  | decCtrlByte => exact rfl
  | decClsCtrl b hl _ hc hroom =>
    rw [hl] at hheld here
    have hctrl := (classify_eq_ctrl_iff b).mp hc
    exact frameInv_of_receivedSoFar (Pushed.receivedSoFar_first ⟨hroom, rfl, rfl, rfl, rfl⟩ hheld here hctrl) (.inl rfl)
  | decAddrMore b r hl ho hr hroom =>
    rw [hl] at hheld here
    exact frameInv_of_receivedSoFar (Pushed.receivedSoFar ⟨hroom, rfl, rfl, rfl, rfl⟩ hheld here.2.1) (.inl rfl)
  | decAddrLast b r hl ho hr hroom =>
    rw [hl] at hheld here
    exact frameInv_of_receivedSoFar (Pushed.receivedSoFar ⟨hroom, rfl, rfl, rfl, rfl⟩ hheld here.2.1) (.inr rfl)
  | decLenByte b r hl ho hr hroom =>
    rw [hl] at hheld here
    exact frameInv_of_receivedCounted (Pushed.receivedCounted_first ⟨hroom, rfl, rfl, rfl, rfl⟩ hheld here rfl) rfl
  | decPayMore b r hl ho hr hroom =>
    rw [hl] at hheld here
    obtain ⟨hpos, hhdr, -⟩ := here
    exact frameInv_of_receivedCounted (Pushed.receivedCounted ⟨hroom, rfl, rfl, rfl, rfl⟩ hheld hhdr hpos rfl) rfl
  | decPayLast b r hl ho hr hroom hc =>
    rw [hl] at hheld here
    obtain ⟨hpos, hhdr, -⟩ := here
    exact frameInv_of_receivedWhole (Pushed.receivedCounted ⟨hroom, rfl, rfl, rfl, rfl⟩ hheld hhdr hpos rfl) hc rfl
  | decVfyOk hl => rw [hl] at hheld; exact fun _ => hheld
  | wrPfx hl | wrEnd hl | decChkByte b r hl | rdSwEnd hl => rw [hl] at hheld; exact hheld
  | decCtrlTimeout | decAddrTimeout | decLenTimeout | decPayTimeout | decChkTimeout =>
    exact frameInv_of_not_retOk (.inl rfl) rfl
  | decClsLost | decClsNeg | decClsPos | decClsOther | decVfyBad => exact frameInv_of_not_retOk (.inl rfl) rfl
  | rstTopCancel | rstCmpAck => exact frameInv_of_holdsNothing (endReset_holdsNothing _ _ _)
  | siaTopCancel | sia6cMatch => exact frameInv_of_holdsNothing (endSetaddr_holdsNothing _ _ _)
  | chkEndReady hl | chkEndTimeout hl | chkEndWrong hl =>
    rw [hl] at here
    exact endChkstate_frameInv _ _ fun hop => by simpa using (here (by simpa using hop)).1
  | _ => exact frameInv_of_holdsNothing rfl

/-- R32, R112: the moves of the host, the platform and the transport. -/
theorem HostStep.frameInv {x : HostMove} (h : HostStep s x t) (hi : Inv s) (hf : FrameInv s) : FrameInv t := by
  cases h with
  | started op => exact frameInv_of_holdsNothing (by cases op <;> rfl)
  | txb i b hb => exact frameInv_of_holdsNothing (by rw [hi.seq_of_idle hb]; rfl)
  | txLen n hb => exact frameInv_of_holdsNothing (by rw [hi.seq_of_idle hb]; rfl)
  | hwReset => exact frameInv_of_holdsNothing rfl
  | _ => exact hf

/-- Settles O41: the engine's line and every other move, each on the state without the move taken. -/
theorem everyStepKeepsTheFrameInvariant : Obligations.EveryStepKeepsTheFrameInvariant := by
  intro s t hi hf hs
  rcases next_cases hs with ⟨-, -, m, -, h⟩ | ⟨-, -, m, -, rfl⟩ | ⟨-, x, m, -, h⟩
  · exact h.frameInv (hi.moves m) hf
  · exact hf
  · exact h.frameInv (hi.moves m) hf

end Sys2Proof.Machine
end

section
/-! PROOFS. R22, R50, R121, R229, R236: whether the engine's line completes. Under the invariant no index leaves its buffer and
no operand leaves the wire format, so that a line is stopped by a closed transport only, and only where it makes a request. -/

namespace Sys2Proof.Machine

variable {s t : State}

/-! ## Indexes and operands under the invariant -/

/-- R120: the labels whose line pushes a byte. -/
def pushesByte : Label → Bool
  | .decCls | .decAddr | .decLen | .decPay => true
  | _ => false

/-- R121: there is room for the byte. -/
theorem Inv.room (hi : Inv s) (hl : pushesByte s.seq = true) : s.rxLen.toNat < rxMax := by
  have here := hi.here
  unfold labelFacts at here
  simp only [rxMax] at here ⊢
  cases hs : s.seq <;> simp only [hs, pushesByte, Bool.false_eq_true] at hl <;> rw [hs] at here
  case decCls => rw [here]; decide
  all_goals omega

/-- R50, R92: the index of a pair is inside `TXB`, and inside the format. -/
theorem Inv.idx_lt_txMax (hi : Inv s) (hl : s.seq = .wrPfx ∨ s.seq = .wrDat) : s.idx.toNat < txMax := by
  have here := hi.here
  unfold labelFacts at here
  rcases hl with hl | hl <;> rw [hl] at here <;> exact idx_lt_txMax_of_lt_txLen here.2

/-- R92: the length of an end marker is inside the format. -/
theorem Inv.endLengthOk (hi : Inv s) (hl : s.seq = .wrEnd) : endLengthOk s.txLen = true := by
  have here := hi.here
  unfold labelFacts at here
  rw [hl] at here
  simpa [Machine.endLengthOk, txMin] using here

/-! ## Lines that complete -/

/-- R10: the line answers a next state. -/
def Completes (r : Result) : Prop := ∃ t, r = .next t

theorem completes_next (t : State) : Completes (.next t) := ⟨t, rfl⟩

theorem completes_ite {c : Prop} [Decidable c] {r₁ r₂ : Result} (h₁ : Completes r₁) (h₂ : Completes r₂) :
    Completes (if c then r₁ else r₂) := by
  split <;> assumption

theorem completes_send (b : Byte) (l : Label) (ho : s.isOpen = true) : Completes (send b l s) :=
  ⟨_, send_open b l ho⟩

/-- R57: a line that reads, if it goes on with either answer. -/
theorem completes_readByte {T : TimeLabel} {onT : State → Result} {onB : Byte → State → Result} (ho : s.isOpen = true)
    (hT : ∀ u, Completes (onT u)) (hB : ∀ b u, u.rxLen = s.rxLen → Completes (onB b u)) :
    Completes (readByte T s onT onB) := by
  rcases answer_cases s.rxStream with ⟨r, hr⟩ | ⟨b, r, hr⟩
  · rw [readByte_timeout ho hr]; exact hT _
  · rw [readByte_byte ho hr]; exact hB b _ rfl

/-- R121: a line that pushes a byte where there is room. -/
theorem completes_push {k : State → Result} (b : Byte) (hroom : s.rxLen.toNat < rxMax) (hk : ∀ u, Completes (k u)) :
    Completes (orFault (push b s) k) := by
  rw [push_ok hroom]; exact hk _

/-- R120: a read of `DECODE` whose byte is pushed. -/
theorem completes_readOrFail_push {k : Byte → State → Result} (ho : s.isOpen = true) (hroom : s.rxLen.toNat < rxMax)
    (hk : ∀ b u, Completes (k b u)) : Completes (readOrFail s fun b u => orFault (push b u) (k b)) :=
  completes_readByte ho (fun _ => completes_next _) fun b _ hlen => completes_push b (hlen ▸ hroom) (hk b)

theorem completes_foldLoop (loop done : Label) (s : State) : Completes (foldLoop loop done s) := by
  by_cases hlt : s.idx.toNat < s.txLen.toNat
  · exact ⟨_, foldLoop_more loop done hlt⟩
  · exact ⟨goto done s, by simp [foldLoop, moreToSend, hlt]⟩

theorem completes_lineDecCls (hroom : s.rxLen.toNat < rxMax) : Completes (lineDecCls s) := by
  unfold lineDecCls
  split
  case h_5 => exact completes_push _ hroom fun _ => completes_next _
  all_goals exact completes_next _

/-- R236: under the invariant the line at a label completes if the transport is open or the line makes no request. -/
theorem completes_microLine (hi : Inv s) (ho : needsTransport s.seq = true → s.isOpen = true) :
    Completes (microLine s) := by
  have hroom := hi.room
  unfold microLine
  cases hl : s.seq <;> rw [hl] at ho hroom
  case csuLoop | verLoop => exact completes_foldLoop _ _ s
  case rstTx | sia1a | sia1b | sia2a | sia3a | sia3b | sia4a | sia4b | sia5a | sia5b | sia6a =>
    exact completes_send _ _ (ho rfl)
  case chkTx => exact completes_send _ _ (by simpa using ho rfl)
  case chkRx | rstRx | sia2b | sia2bSecond | sia6b | sia6bSecond =>
    exact completes_readByte (ho rfl) (fun _ => completes_next _) fun _ _ _ => completes_next _
  case siaFail | iniCfg => exact ⟨_, whenOpen_open _ (ho rfl)⟩
  case chkEnd => exact completes_ite (completes_next _) (completes_ite (completes_next _) (completes_next _))
  case rstTop | rstCmp | siaTop | sia6c | iniTop | iniEnd | decVfy =>
    exact completes_ite (completes_next _) (completes_next _)
  case iniOpen => cases hopen : s.isOpen <;> simp only [lineIniOpen, tisOpen, hopen] <;> exact completes_next _
  case decCtrl | decChk => exact completes_readByte (ho rfl) (fun _ => completes_next _) fun _ _ _ => completes_next _
  case decCls => exact completes_lineDecCls (hroom rfl)
  case decAddr | decLen | decPay => exact completes_readOrFail_push (ho rfl) (hroom rfl) fun _ _ => completes_next _
  case wrChk => exact completes_ite (completes_next _) (completes_next _)
  case wrPfx =>
    rw [lineWrPfx, if_pos ((prefixIndexOk_iff _).mpr (hi.idx_lt_txMax (.inl hl)))]
    exact completes_send _ _ (ho rfl)
  case wrDat =>
    rw [lineWrDat, readTxb_ok (hi.idx_lt_txMax (.inr hl))]
    exact ⟨_, whenOpen_open _ (ho rfl)⟩
  case wrEnd =>
    rw [lineWrEnd, if_pos (hi.endLengthOk hl)]
    exact completes_send _ _ (ho rfl)
  case wrCs => exact ⟨_, whenOpen_open _ (ho rfl)⟩
  all_goals exact completes_next _

/-- R229: under the invariant a line that makes a request is refused on a closed transport. -/
theorem microLine_closed (hi : Inv s) (hl : needsTransport s.seq = true) (ho : s.isOpen = false) :
    microLine s = .refused .transportClosed := by
  unfold microLine
  cases hs : s.seq <;> simp only [hs, needsTransport, Bool.false_eq_true] at hl
  case chkTx => exact whenOpen_closed _ (by simpa using ho)
  case wrPfx =>
    simp only [lineWrPfx, if_pos ((prefixIndexOk_iff _).mpr (hi.idx_lt_txMax (.inl hs)))]
    exact whenOpen_closed _ ho
  case wrDat =>
    simp only [lineWrDat, readTxb_ok (hi.idx_lt_txMax (.inr hs))]
    exact whenOpen_closed _ ho
  case wrEnd =>
    simp only [lineWrEnd, if_pos (hi.endLengthOk hs)]
    exact whenOpen_closed _ ho
  all_goals exact whenOpen_closed _ ho

/-! ## The step -/

/-- Log 2: a step is the engine's line, on the state without the move that let it, or it completes. -/
theorem step_line_or_completes (s : State) :
    (s.busy = true ∧ ∃ m, step s = microLine { s with moves := m }) ∨ Completes (step s) := by
  rcases step_cases s with ⟨-, hb, m, -, hs⟩ | ⟨-, -, m, -, hs⟩ | ⟨he, x, m, hm, hs⟩
  · exact .inl ⟨hb, m, hs⟩
  · exact .inr ⟨_, hs⟩
  · have hx : engineNext [x] = false := by rw [hm] at he; cases x <;> exact he
    obtain ⟨t, ht, -⟩ := hostTurn_step x { s with moves := m } hx
    exact .inr ⟨t, hs.trans ht⟩

/-- Settles O43: a line completes on an open transport, and every other move does anyway. -/
theorem everyStepCompletesOnAnOpenTransport : Obligations.EveryStepCompletesOnAnOpenTransport := by
  intro s hi ho
  rcases step_line_or_completes s with ⟨-, m, hs⟩ | hs
  · rw [hs]; exact completes_microLine (hi.moves m) fun _ => ho
  · exact hs

/-- Settles O42: a line completes or, on a closed transport, is refused. -/
theorem noStepFaults : Obligations.NoStepFaults := by
  intro s f hi hs
  rcases step_line_or_completes s with ⟨-, m, hline⟩ | ⟨t, ht⟩
  · by_cases hstop : needsTransport s.seq = true ∧ s.isOpen = false
    · rw [hline, microLine_closed (hi.moves m) hstop.1 hstop.2] at hs
      cases hs
    · have ho : needsTransport s.seq = true → s.isOpen = true := fun hn => by
        simpa using fun ho => hstop ⟨hn, ho⟩
      obtain ⟨t, ht⟩ := completes_microLine (hi.moves m) ho
      rw [hline, ht] at hs
      cases hs
  · rw [ht] at hs; cases hs

/-- Settles O59: the labels of `needsTransport` are those whose line makes the request. -/
theorem closedTransportIsRefused : Obligations.ClosedTransportIsRefused := by
  intro s hi hb hm ho
  rw [step_engine hm hb]
  exact ⟨fun hl => microLine_closed hi hl ho, fun hl => completes_microLine hi fun hl' => by simp [hl] at hl'⟩

/-! ## The instructions of an operation -/

/-- R23: while an operation runs, the instruction of the operation or sub-operation that a label belongs to is the line at
the label. -/
theorem exec_owner (hb : s.busy = true) : exec (owner s.seq) s = microLine s := by
  unfold microLine
  cases hl : s.seq <;>
    simp [owner, exec, execNop, execCsum, execVerify, execChkstate, execReset, execSetaddr, execInit, execRead, execWrite,
      execDecode, hb, hl]

/-- R120: `DECODE` at its labels is the line at the label. -/
theorem exec_decode (hl : owner s.seq = .decode) : exec .decode s = microLine s := by
  unfold microLine
  cases hs : s.seq <;> simp only [hs, owner, reduceCtorEq] at hl <;> simp [exec, execDecode, hs]

/-- R130, R174: `ENCODE` at the labels of `WRITE` is the line at the label. -/
theorem exec_encode (hl : owner s.seq = .write) : exec .encode s = microLine s := by
  unfold microLine
  cases hs : s.seq <;> simp only [hs, owner, reduceCtorEq] at hl <;> simp [exec, execEncode, hs]

/-- Settles O6: the byte-level instruction, the operation and `ENCODE` are all the line at the label. -/
theorem microStepsAreTheirOperations : Obligations.MicroStepsAreTheirOperations := by
  intro s hb
  refine ⟨(exec_fetchMicro hb).trans (exec_owner hb).symm, fun hl => ?_⟩
  rw [exec_encode hl, ← exec_owner hb, hl]

end Sys2Proof.Machine
end

section
/-! PROOFS. R27, R32, R34, R36, R37, R50, R51, R70, R120, R190, R205: what a step leaves unchanged and what it records, whichever
agent moves. -/

namespace Sys2Proof.Machine

variable {s t u : State} {x : HostMove} {m : List HostMove}

/-! ## Who moves -/

/-- R210: a hardware reset is no turn of the engine. -/
theorem resetNext_of_engineNext (h : engineNext m = true) : resetNext m = false := by
  unfold engineNext at h
  split at h
  · rfl
  · rfl
  · rfl
  · simp at h

/-- R210: the move taken is no hardware reset. -/
theorem ne_hwReset_of_resetNext (hr : resetNext s.moves = false) (hm : s.moves = x :: m) : x ≠ .hwReset := by
  rintro rfl
  simp [hm, resetNext] at hr

/-! ## The operands -/

/-- R32: the host's writes of the operands are ignored while an operation runs. -/
theorem HostStep.operands_of_busy (h : HostStep s x t) (hb : s.busy = true) (hx : x ≠ .hwReset) :
    t.txLen = s.txLen ∧ t.chkIn = s.chkIn ∧ ∀ a : Nat, t.txbByte a = s.txbByte a := by
  cases h with
  | hwReset => exact absurd rfl hx
  | txb _ _ hidle | txLen _ hidle | chkIn _ hidle => simp [hb] at hidle
  | _ => exact ⟨rfl, rfl, fun _ => rfl⟩

/-- Settles O47: no line writes the operands, and the host's writes of them are ignored. -/
theorem operandsAreFrozenWhileBusy : Obligations.OperandsAreFrozenWhileBusy := by
  intro s t hfrozen hr hs
  rcases next_cases hs with ⟨-, -, m, -, h⟩ | ⟨-, -, m, -, rfl⟩ | ⟨he, x, m, hm, h⟩
  · exact ⟨h.sameInputs.txLen, h.sameInputs.chkIn, h.sameInputs.txbByte⟩
  · exact ⟨rfl, rfl, fun _ => rfl⟩
  · exact h.operands_of_busy (by simpa [he] using hfrozen) (ne_hwReset_of_resetNext hr hm)

/-! ## `IA` -/

/-- R34: of the moves only a hardware reset samples `IA`. -/
theorem HostStep.ia_eq (h : HostStep s x t) : t.ia = if resetNext (x :: m) then s.iaStrap else s.ia := by
  cases h <;> rfl

/-- Settles O50. -/
theorem iaIsConstantBetweenResets : Obligations.IaIsConstantBetweenResets := by
  intro s t hs
  rcases next_cases hs with ⟨he, -, m, -, h⟩ | ⟨he, -, m, -, rfl⟩ | ⟨-, x, m, hm, h⟩
  · rw [resetNext_of_engineNext he]; exact h.sameInputs.ia
  · rw [resetNext_of_engineNext he]; rfl
  · rw [hm]; exact h.ia_eq

/-! ## The receive buffer -/

/-- R51: a buffer that is not written reads as before. -/
theorem rxbByte_congr (hbuf : t.rxbuf = s.rxbuf) (hepoch : t.rxbEpoch = s.rxbEpoch) (a : Nat) :
    t.rxbByte a = s.rxbByte a := by
  rw [State.rxbByte, State.rxbByte, hbuf, hepoch]

/-- R51: the host never writes `RXB`. -/
theorem HostStep.rxbByte_eq (h : HostStep s x t) (hx : x ≠ .hwReset) (a : Nat) : t.rxbByte a = s.rxbByte a := by
  cases h with
  | hwReset => exact absurd rfl hx
  | _ => rfl

/-- Settles O54: a line that pushes writes at `rx_len`; one that fails a `DECODE` is excepted, and every other writes nothing. -/
theorem receiveBufferIsWrittenByPush : Obligations.ReceiveBufferIsWrittenByPush := by
  intro s t hr hs hfail
  rcases next_cases hs with ⟨he, hb, m, -, h⟩ | ⟨-, -, m, -, rfl⟩ | ⟨-, x, m, hm, h⟩
  · cases h.receiveStep with
    | kept hbuf hepoch | emptied hbuf hepoch =>
      exact ⟨fun a _ => rxbByte_congr hbuf hepoch a, .inr (rxbByte_congr hbuf hepoch)⟩
    | pushed b hl hpush => exact ⟨fun a ha => (hpush.rxbByte a).trans (if_neg ha), .inl ⟨hl, hb, he⟩⟩
    | failed hl hseq hret => exact absurd ⟨hl, hseq, hret⟩ hfail
  · exact ⟨fun _ _ => rfl, .inr fun _ => rfl⟩
  · have hsame := h.rxbByte_eq (ne_hwReset_of_resetNext hr hm)
    exact ⟨fun a _ => hsame a, .inr hsame⟩

/-! ## The results -/

/-- R95, R190: of the moves but a hardware reset only a reserved code writes the results. -/
theorem HostStep.results (h : HostStep s x t) (hx : x ≠ .hwReset) :
    (t.resOk = s.resOk ∧ t.resCode = s.resCode) ∨
      ∃ c, t.events = s.events ++ [.illegal c] ∧ t.resOk = false ∧ t.resCode = .illegalOp ∧ t.busy = s.busy := by
  cases h with
  | hwReset => exact absurd rfl hx
  | rejected c => exact .inr ⟨c, rfl, rfl, rfl, rfl⟩
  | _ => exact .inl ⟨rfl, rfl⟩

/-- R190: `finish` records what it writes. -/
theorem GoesOn.finish_events (h : GoesOn s u) (ok : Bool) (c : ResCode) :
    ∃ es, (finish ok c u).events = s.events ++ es ++ [.done s.curOp ok c] := by
  obtain ⟨es, hes⟩ := h.events
  exact ⟨es, by rw [Machine.finish_events, hes, h.curOp]⟩

/-- Settles O52: a line keeps the results or finishes the operation, and a move keeps them or rejects a code. -/
theorem resultsAreWrittenByFinish : Obligations.ResultsAreWrittenByFinish := by
  intro s t hr hs
  rcases next_cases hs with ⟨-, -, m, -, h⟩ | ⟨-, -, m, -, rfl⟩ | ⟨-, x, m, hm, h⟩
  · cases h.resultStep with
    | kept hgo => exact .inl ⟨hgo.resOk, hgo.resCode⟩
    | finished ok c hgo =>
      obtain ⟨es, hes⟩ := hgo.finish_events ok c
      exact .inr (.inl ⟨es, hes, rfl, rfl⟩)
  · exact .inl ⟨rfl, rfl⟩
  · exact (h.results (ne_hwReset_of_resetNext hr hm)).imp_right .inr

/-! ## The events -/

/-- R205: the bytes sent among the events of two runs. -/
theorem txBytesOf_append (es fs : List Event) : txBytesOf (es ++ fs) = txBytesOf es ++ txBytesOf fs := by
  induction es with
  | nil => rfl
  | cons e es ih => cases e <;> simp [txBytesOf, ih]

/-- R10, R205: events none of which records a request. -/
def Quiet (es : List Event) : Prop := es.countP Event.isRequest = 0

theorem quiet_nil : Quiet [] := rfl

theorem quiet_linkEvent (v w : LinkState) : Quiet (linkEvent v w) := by
  unfold linkEvent
  split <;> rfl

theorem Quiet.append {es fs : List Event} (he : Quiet es) (hf : Quiet fs) : Quiet (es ++ fs) := by
  rw [Quiet, List.countP_append, he, hf]

/-- R58: no byte is sent by them. -/
theorem Quiet.txBytesOf_eq_nil {es : List Event} (h : Quiet es) : txBytesOf es = [] := by
  induction es with
  | nil => rfl
  | cons e es ih =>
    rw [Quiet, List.countP_cons] at h
    have hes : Quiet es := by rw [Quiet]; omega
    cases e <;> simp_all [txBytesOf, Event.isRequest]

/-- R10, R58, R205: from `s` to `t` some events are appended, at most one of them a request, and exactly the bytes of the `Tx`
events are sent. -/
def Recorded (s t : State) : Prop :=
  ∃ es : List Event, t.events = s.events ++ es ∧ es.countP Event.isRequest ≤ 1 ∧ t.txStream = s.txStream ++ txBytesOf es

/-- One event. -/
theorem recorded_event (e : Event) (he : t.events = s.events ++ [e]) (ht : t.txStream = s.txStream ++ txBytesOf [e]) :
    Recorded s t :=
  ⟨[e], he, List.countP_le_length, ht⟩

/-- Events none of which is a request. -/
theorem recorded_quiet {es : List Event} (he : t.events = s.events ++ es) (ht : t.txStream = s.txStream) (hq : Quiet es) :
    Recorded s t :=
  ⟨es, he, (Nat.le_of_eq hq).trans (Nat.zero_le 1), by rw [ht, hq.txBytesOf_eq_nil, List.append_nil]⟩

/-- Nothing. -/
theorem recorded_nothing (he : t.events = s.events) (ht : t.txStream = s.txStream) : Recorded s t :=
  recorded_quiet (he.trans (List.append_nil _).symm) ht quiet_nil

/-- Such a run followed by events none of which is a request. -/
theorem Recorded.quiet {es : List Event} (h : Recorded s u) (he : t.events = u.events ++ es)
    (ht : t.txStream = u.txStream) (hq : Quiet es) : Recorded s t := by
  obtain ⟨fs, hfs, hcount, htx⟩ := h
  refine ⟨fs ++ es, by rw [he, hfs, List.append_assoc], ?_, ?_⟩
  · rw [List.countP_append, hq]; exact hcount
  · rw [ht, htx, txBytesOf_append, hq.txBytesOf_eq_nil, List.append_nil]

/-- R190: the end of an operation is no request. -/
theorem Recorded.finish (h : Recorded s u) (ok : Bool) (c : ResCode) : Recorded s (finish ok c u) :=
  h.quiet (es := [.done u.curOp ok c]) rfl rfl rfl

theorem Recorded.returnSub (h : Recorded s u) (ok : Bool) (c : ResCode) (l : Label) : Recorded s (returnSub ok c l u) :=
  h

/-- R24, R190: so are the ends of `RESET`, `SETADDR` and `CHKSTATE`. -/
theorem Recorded.endReset (h : Recorded s u) (ok : Bool) (c : ResCode) : Recorded s (endReset ok c u) := by
  rcases endReset_cases ok c u with ⟨-, -, he⟩ | ⟨-, -, he⟩ | ⟨-, he⟩ <;> rw [he]
  · exact (h.returnSub _ _ _).finish _ _
  · exact h.returnSub _ _ _
  · exact h.finish _ _

theorem Recorded.endSetaddr (h : Recorded s u) (ok : Bool) (c : ResCode) : Recorded s (endSetaddr ok c u) := by
  rcases endSetaddr_cases ok c u with ⟨-, -, he⟩ | ⟨-, -, he⟩ | ⟨-, he⟩ <;> rw [he]
  · exact (h.returnSub _ _ _).finish _ _
  · exact h.returnSub _ _ _
  · exact h.finish _ _

theorem Recorded.endChkstate (h : Recorded s u) (ok : Bool) (c : ResCode) : Recorded s (endChkstate ok c u) := by
  rcases endChkstate_cases ok c u with ⟨-, he⟩ | ⟨-, he⟩ | ⟨-, -, he⟩ <;> rw [he]
  · exact h.returnSub _ _ _
  · exact h
  · exact h.finish _ _

/-- R163, R205: a write of `link_state` is no request. -/
theorem recorded_setLink (v : LinkState) (s : State) : Recorded s (setLink v s) := by
  rw [setLink_record]
  exact recorded_quiet rfl rfl (quiet_linkEvent _ _)

theorem recorded_refl (s : State) : Recorded s s := recorded_nothing rfl rfl

/-- R10, R205: what each line records. -/
theorem Micro.recorded (h : Micro s t) : Recorded s t := by
  cases h with
  | idle => exact recorded_refl s
  | csuEnd | verEnd | iniTopCancel | iniEndOk | rdEnd | wrChkShort => exact (recorded_refl s).finish _ _
  | iniOpenNo => 
    exact Recorded.finish (u := { s with events := s.events ++ [.isOpen false] })
      (recorded_event _ rfl (List.append_nil _).symm) _ _
  | wrCs => exact (recorded_event (.tx s.acc) rfl rfl).finish _ _
  | rstTopCancel => exact (recorded_refl s).endReset _ _
  | rstCmpAck => exact (recorded_setLink _ s).endReset _ _
  | siaTopCancel => exact (recorded_refl s).endSetaddr _ _
  | sia6cMatch => exact (recorded_setLink _ s).endSetaddr _ _
  | chkEndReady => exact (recorded_setLink _ s).endChkstate _ _
  | chkEndTimeout | chkEndWrong => exact (recorded_refl s).endChkstate _ _
  | chkTx =>
    have hq := quiet_linkEvent s.linkState .stateChecking
    refine ⟨linkEvent s.linkState .stateChecking ++ [.tx stateRequest], List.append_assoc _ _ _, ?_, ?_⟩
    · rw [List.countP_append, hq]; decide
    · rw [txBytesOf_append, hq.txBytesOf_eq_nil]; rfl
  | iniRst | iniSia => exact recorded_quiet rfl rfl (quiet_linkEvent _ _)
  | siaFail => exact (recorded_event (t := { s with events := s.events ++ [.flush .tFlush] }) (.flush .tFlush) rfl
      (List.append_nil _).symm).quiet (es := [.retry .setaddr]) (by simp) rfl rfl
  | rstTx | sia1a | sia1b | sia2a | sia3a | sia3b | sia4a | sia4b | sia5a | sia5b | sia6a => exact recorded_event _ rfl rfl
  | wrPfx | wrDatMore | wrDatLast | wrEnd => exact recorded_event _ rfl rfl
  | chkRxTimeout | chkRxByte | rstRxTimeout | rstRxByte | sia2bTimeout | sia2bByte | sia2bSecondTimeout |
      sia2bSecondByte | sia6bTimeout | sia6bByte | sia6bSecondTimeout | sia6bSecondByte =>
    exact recorded_event _ rfl (List.append_nil _).symm
  | rstCmpRetry | sia5c | iniOpenYes | iniCfg | iniEndRetry => exact recorded_event _ rfl (List.append_nil _).symm
  | decCtrlTimeout | decCtrlByte | decAddrTimeout | decAddrMore | decAddrLast | decLenTimeout | decLenByte |
      decPayTimeout | decPayMore | decPayLast | decChkTimeout | decChkByte =>
    exact recorded_event _ rfl (List.append_nil _).symm
  | _ => exact recorded_nothing rfl rfl

/-- R205: what the moves of the host, the platform and the transport record. -/
theorem HostStep.recorded (h : HostStep s x t) (hx : x ≠ .hwReset) : Recorded s t := by
  cases h with
  | hwReset => exact absurd rfl hx
  | started op => exact recorded_quiet (List.append_assoc _ _ _) rfl (Quiet.append (es := [.start op]) rfl (quiet_linkEvent _ _))
  | rejected c => exact recorded_event (.illegal c) rfl (List.append_nil _).symm
  | _ => exact recorded_nothing rfl rfl

/-- Settles O51: a line makes at most one request and records it; the other moves make none. -/
theorem eventsRecordTheTxStream : Obligations.EventsRecordTheTxStream := by
  intro s t hr hs
  rcases next_cases hs with ⟨-, -, m, -, h⟩ | ⟨-, -, m, -, rfl⟩ | ⟨-, x, m, hm, h⟩
  · exact h.recorded
  · exact recorded_refl s
  · exact h.recorded (ne_hwReset_of_resetNext hr hm)

/-! ## The micro-steps of `DECODE` and `ENCODE` -/

/-- R120: what a line of `DECODE` takes, where it goes and what it leaves unchanged. -/
theorem Micro.decode_frame (h : Micro s t) (hl : owner s.seq = .decode) :
    t.rxStream = (if s.seq = .decCls ∨ s.seq = .decVfy then s.rxStream else (nextAnswer s.rxStream).2) ∧
      (owner t.seq = .decode ∨ t.seq = .rdSw) ∧
      t = { s with
            seq := t.seq, cnt := t.cnt, acc := t.acc, rxLen := t.rxLen, rxb := t.rxb, rxbuf := t.rxbuf, rxbEpoch := t.rxbEpoch,
            confPol := t.confPol, rxStream := t.rxStream, rxTimeout := t.rxTimeout, retOk := t.retOk,
            retCode := t.retCode, events := t.events } := by
  cases h with
  | decCtrlTimeout r hs ho hr | decAddrTimeout r hs ho hr | decLenTimeout r hs ho hr | decPayTimeout r hs ho hr
  | decChkTimeout r hs ho hr =>
    exact ⟨by simp [hs, hr], .inr rfl, rfl⟩
  | decClsLost hs | decClsNeg hs | decClsPos hs | decClsOther hs | decVfyOk hs | decVfyBad hs =>
    exact ⟨by simp [hs], .inr rfl, rfl⟩
  | decClsCtrl b hs => exact ⟨by simp [hs], .inl rfl, rfl⟩
  | decCtrlByte b r hs ho hr | decAddrMore b r hs ho hr | decAddrLast b r hs ho hr | decLenByte b r hs ho hr
  | decPayMore b r hs ho hr | decPayLast b r hs ho hr | decChkByte b r hs ho hr =>
    exact ⟨by simp [hs, hr], .inl rfl, rfl⟩
  | _ => simp_all [owner] -- the lines of the other labels, against `hl`

/-- Settles O16: the line completes, and `Micro.decode_frame` says what it does. -/
theorem decodeMicroStepsComplete : Obligations.DecodeMicroStepsComplete := by
  intro s hi ho hl
  obtain ⟨t, ht⟩ := completes_microLine hi fun _ => ho
  exact ⟨t, (exec_decode hl).trans ht, (micro_of_next ht).decode_frame hl⟩

/-- R130, R174: what a line of `WRITE` sends and what it leaves unchanged. -/
theorem Micro.encode_frame (h : Micro s t) (hl : owner s.seq = .write) :
    ∃ bs, t.txStream = s.txStream ++ bs ∧ bs.length = (if s.seq = .wrChk then 0 else 1) ∧
      t = { s with
            seq := t.seq, busy := t.busy, idx := t.idx, acc := t.acc, resOk := t.resOk, resCode := t.resCode,
            txStream := t.txStream, events := t.events } := by
  cases h with
  | wrChkShort hs | wrChkGo hs => exact ⟨[], by simp, by simp [hs], rfl⟩
  | wrPfx hs | wrDatMore hs | wrDatLast hs | wrEnd hs | wrCs hs => exact ⟨_, rfl, by simp [hs], rfl⟩
  | _ => simp_all [owner] -- the lines of the other labels, against `hl`

/-- R175: `WR_CHK` makes no request. -/
theorem open_of_needsTransport (hopen : s.seq = .wrChk ∨ s.isOpen = true) (hl : needsTransport s.seq = true) :
    s.isOpen = true := by
  rcases hopen with hs | ho
  · simp [hs, needsTransport] at hl
  · exact ho

/-- Settles O25: the line completes, and `Micro.encode_frame` says what it does. -/
theorem encodeMicroStepsComplete : Obligations.EncodeMicroStepsComplete := by
  intro s hi hl hopen
  obtain ⟨t, ht⟩ := completes_microLine hi (open_of_needsTransport hopen)
  obtain ⟨bs, hframe⟩ := (micro_of_next ht).encode_frame hl
  exact ⟨t, bs, (exec_encode hl).trans ht, hframe⟩

end Sys2Proof.Machine
end

section
/-! PROOFS. R39, R160: `cancel` is read at `RST_TOP`, `SIA_TOP` and `INI_TOP` only. Every operation that a line is built from
goes with `forgetCancel` (it neither reads `cancel` nor writes it), and so does every line but those three. -/

namespace Sys2Proof.Machine

variable {s t : State}

/-- What is forgotten once stays forgotten. -/
@[simp] theorem forgetCancel_forgetCancel (s : State) : forgetCancel (forgetCancel s) = forgetCancel s := rfl

/-! ## The operations on the state -/

/-- R163: a write of `link_state`. -/
theorem forgetCancel_setLink (v : LinkState) (s : State) : forgetCancel (setLink v s) = setLink v (forgetCancel s) := by
  rw [setLink_record, setLink_record]
  rfl

/-- R60: a flush. -/
theorem forgetCancel_tflush (T : TimeLabel) (s : State) : forgetCancel (tflush T s) = tflush T (forgetCancel s) := by
  unfold tflush
  cases hp : s.flushPlan <;> simp only [forgetCancel, hp] <;> rfl

/-- R24, R190: the ends of `RESET`, `SETADDR` and `CHKSTATE`. -/
theorem forgetCancel_endReset (ok : Bool) (c : ResCode) (s : State) :
    forgetCancel (endReset ok c s) = endReset ok c (forgetCancel s) := by
  unfold endReset
  simp only [apply_ite forgetCancel]
  rfl

theorem forgetCancel_endSetaddr (ok : Bool) (c : ResCode) (s : State) :
    forgetCancel (endSetaddr ok c s) = endSetaddr ok c (forgetCancel s) := by
  unfold endSetaddr
  simp only [apply_ite forgetCancel]
  rfl

theorem forgetCancel_endChkstate (ok : Bool) (c : ResCode) (s : State) :
    forgetCancel (endChkstate ok c s) = endChkstate ok c (forgetCancel s) := by
  unfold endChkstate
  simp only [apply_ite forgetCancel]
  rfl

/-- R140, R143, R147: the answers that were expected. -/
theorem forgetCancel_takeReady (s : State) : forgetCancel (takeReady s) = takeReady (forgetCancel s) := by
  rw [takeReady, forgetCancel_endChkstate, forgetCancel_setLink]
  rfl

theorem forgetCancel_takeResetAck (s : State) : forgetCancel (takeResetAck s) = takeResetAck (forgetCancel s) := by
  rw [takeResetAck, forgetCancel_endReset, forgetCancel_setLink]
  rfl

theorem forgetCancel_takeSecondEcho (s : State) : forgetCancel (takeSecondEcho s) = takeSecondEcho (forgetCancel s) := by
  rw [takeSecondEcho, forgetCancel_endSetaddr, forgetCancel_setLink]
  rfl

/-- R25: the start of an operation. -/
theorem forgetCancel_startOp (op : HostOp) (s : State) : forgetCancel (startOp op s) = startOp op (forgetCancel s) := by
  rw [startOp_record, startOp_record]
  rfl

/-! ## The shapes of a line -/

/-- R160: the line neither reads `cancel` nor writes it. -/
def IgnoresCancel (L : State → Result) : Prop :=
  ∀ s, outcomeUpTo forgetCancel (L s) = L (forgetCancel s)

/-- A line that goes on with an operation on the state. -/
theorem next_forgetCancel {u v : State} (h : forgetCancel u = v) : outcomeUpTo forgetCancel (.next u) = .next v :=
  congrArg Host.Outcome.next h

/-- A line that tests something else. -/
theorem ite_forgetCancel (c : Bool) {r₁ r₂ r₁' r₂' : Result} (h₁ : outcomeUpTo forgetCancel r₁ = r₁')
    (h₂ : outcomeUpTo forgetCancel r₂ = r₂') :
    outcomeUpTo forgetCancel (if c then r₁ else r₂) = if c then r₁' else r₂' := by
  cases c <;> assumption

/-- A request is refused or made alike. -/
theorem whenOpen_forgetCancel {r r' : Result} (s : State) (h : outcomeUpTo forgetCancel r = r') :
    outcomeUpTo forgetCancel (whenOpen s r) = whenOpen (forgetCancel s) r' :=
  ite_forgetCancel s.isOpen h rfl

/-- R58: a line that sends. -/
theorem ignoresCancel_send (b : Byte) (l : Label) : IgnoresCancel (send b l) :=
  fun s => whenOpen_forgetCancel s rfl

/-- R57: a line that reads, if it goes on alike with either answer. -/
theorem ignoresCancel_readByte (T : TimeLabel) {onT : State → Result} {onB : Byte → State → Result}
    (hT : IgnoresCancel onT) (hB : ∀ b, IgnoresCancel (onB b)) : IgnoresCancel fun s => readByte T s onT onB := by
  intro s
  beta_reduce
  cases ho : s.isOpen with
  | false => rw [readByte, whenOpen_closed _ ho, readByte, whenOpen_closed _ (by exact ho)]; rfl
  | true =>
    rcases answer_cases s.rxStream with ⟨r, hr⟩ | ⟨b, r, hr⟩
    · rw [readByte_timeout ho hr, hT, readByte_timeout (s := forgetCancel s) ho hr]; rfl
    · rw [readByte_byte ho hr, hB, readByte_byte (s := forgetCancel s) ho hr]; rfl

/-- R121: a line that pushes, if it goes on alike. -/
theorem ignoresCancel_push (v : Byte) {k : State → Result} (hk : IgnoresCancel k) :
    IgnoresCancel fun s => orFault (push v s) k := by
  intro s
  beta_reduce
  by_cases hl : s.rxLen.toNat < rxMax
  · rw [push_ok hl, push_ok (s := forgetCancel s) hl]; exact hk _
  · simp [push, hl, orFault, outcomeUpTo, forgetCancel]

/-- R50: a line that reads `TXB`, if it goes on alike. -/
theorem ignoresCancel_readTxb {k : Byte → State → Result} (hk : ∀ b, IgnoresCancel (k b)) :
    IgnoresCancel fun s => orFault (readTxb s.idx.toNat s) fun b => k b s := by
  intro s
  have hidx : (forgetCancel s).idx = s.idx := rfl
  by_cases hi : s.idx.toNat < txMax
  · simp only [hidx, readTxb_ok hi]; exact hk _ _
  · simp [readTxb, hi, orFault, outcomeUpTo, hidx]

/-- R113, R114: the loop line of `CSUM` and `VERIFY`. -/
theorem ignoresCancel_foldLoop (loop done : Label) : IgnoresCancel (foldLoop loop done) :=
  fun s => ite_forgetCancel (moreToSend s)
    (ignoresCancel_readTxb (k := fun b u => .next (goto loop { csAbsorb b u with idx := u.idx + 1 })) (fun _ _ => rfl) s) rfl

/-- R120: the first byte of a `DECODE`, by its class. -/
theorem ignoresCancel_lineDecCls : IgnoresCancel lineDecCls := by
  intro s
  have hrxb : (forgetCancel s).rxb = s.rxb := rfl
  unfold lineDecCls
  rw [hrxb]
  cases classify s.rxb
  case ctrl => exact ignoresCancel_push s.rxb (fun _ => rfl) s
  all_goals rfl

/-- R120: a read of `DECODE` whose byte is pushed. -/
theorem ignoresCancel_readOrFail_push {k : Byte → State → Result} (hk : ∀ b, IgnoresCancel (k b)) :
    IgnoresCancel fun s => readOrFail s fun b u => orFault (push b u) (k b) :=
  ignoresCancel_readByte .tShort (fun _ => rfl) fun b => ignoresCancel_push b (hk b)

/-! ## The line at a label -/

/-- R160: every line but the three. -/
theorem microLine_forgetCancel (hc : readsCancel s.seq = false) :
    outcomeUpTo forgetCancel (microLine s) = microLine (forgetCancel s) := by
  have hseq : (forgetCancel s).seq = s.seq := rfl
  unfold microLine
  rw [hseq]
  cases hl : s.seq
  case rstTop | siaTop | iniTop => simp [hl, readsCancel] at hc
  case csuLoop | verLoop => exact ignoresCancel_foldLoop _ _ s
  case rstTx | sia1a | sia1b | sia2a | sia3a | sia3b | sia4a | sia4b | sia5a | sia5b | sia6a =>
    exact ignoresCancel_send _ _ s
  case chkTx => exact (ignoresCancel_send _ _ _).trans (by rw [forgetCancel_setLink]; rfl)
  case chkRx | rstRx | sia2b | sia2bSecond | sia6b | sia6bSecond =>
    exact ignoresCancel_readByte _ (fun _ => rfl) (fun _ _ => rfl) s
  case chkEnd =>
    exact ite_forgetCancel (readyReceived s) (next_forgetCancel (forgetCancel_takeReady s))
      (ite_forgetCancel s.rxTimeout (next_forgetCancel (forgetCancel_endChkstate _ _ s))
        (next_forgetCancel (forgetCancel_endChkstate _ _ s)))
  case rstCmp => exact ite_forgetCancel (ackReceived s) (next_forgetCancel (forgetCancel_takeResetAck s)) rfl
  case sia6c =>
    exact ite_forgetCancel (echoReceived s.siaEcho2 s) (next_forgetCancel (forgetCancel_takeSecondEcho s)) rfl
  case siaFail =>
    exact whenOpen_forgetCancel s (next_forgetCancel
      (congrArg (fun u => goto .siaTop (emit (.retry .setaddr) u)) (forgetCancel_tflush _ s)))
  case iniOpen => cases ho : s.isOpen <;> simp [lineIniOpen, tisOpen, ho, forgetCancel, outcomeUpTo, goto, emit, finish]
  case iniCfg => exact whenOpen_forgetCancel s rfl
  case iniRst | iniSia => exact next_forgetCancel (congrArg (goto _) (forgetCancel_setLink _ s))
  case iniEnd => exact ite_forgetCancel s.retOk rfl rfl
  case decCtrl | decChk => exact ignoresCancel_readByte .tShort (fun _ => rfl) (fun _ _ => rfl) _
  case decCls => exact ignoresCancel_lineDecCls s
  case decAddr | decLen | decPay => exact ignoresCancel_readOrFail_push (fun _ _ => rfl) s
  case decVfy => exact ite_forgetCancel (checksumOk s.rxb s) rfl rfl
  case wrChk => exact ite_forgetCancel (frameTooShort s) rfl rfl
  case wrPfx => exact ite_forgetCancel (prefixIndexOk s.idx) (ignoresCancel_send _ _ s) rfl
  case wrDat => exact ignoresCancel_readTxb (k := sendData) (fun _ u => whenOpen_forgetCancel u rfl) s
  case wrEnd => exact ite_forgetCancel (endLengthOk s.txLen) (ignoresCancel_send _ _ s) rfl
  case wrCs => exact whenOpen_forgetCancel s rfl
  all_goals rfl

/-! ## The step -/

/-- R160: the engine's turn. -/
theorem engineTurn_forgetCancel (hc : readsCancel s.seq = false) :
    outcomeUpTo forgetCancel (engineTurn s).result = (engineTurn (forgetCancel s)).result := by
  cases hb : s.busy with
  | true => rw [engineTurn_busy hb, engineTurn_busy (s := forgetCancel s) hb]; exact microLine_forgetCancel hc
  | false => rw [engineTurn_idle hb, engineTurn_idle (s := forgetCancel s) hb]; rfl

/-- R39: the moves of the host, the platform and the transport; the one of `cancel` writes what is forgotten. -/
theorem hostTurn_forgetCancel (x : HostMove) (s : State) :
    outcomeUpTo forgetCancel (hostTurn x s).result = outcomeUpTo forgetCancel (hostTurn x (forgetCancel s)).result := by
  have hbusy : (forgetCancel s).busy = s.busy := rfl
  cases x
  case opStart c =>
    cases hb : s.busy with
    | true => simp [hostTurn, hb, hbusy, Turn.result]
    | false =>
      simp only [hostTurn, hb, hbusy, Bool.false_eq_true, if_false, Turn.result]
      rcases exec_opCode c hb with ⟨rfl, he⟩ | ⟨op, hop, rfl, he⟩ | ⟨hge, he⟩
      · rw [he, exec_opCode_zero]; rfl
      · rw [he, exec_opCode_defined (s := forgetCancel s) hb hop, ← forgetCancel_startOp]; rfl
      · rw [he, exec_opCode_reserved (s := forgetCancel s) hb hge]; rfl
  case writeTxb | writeTxLen | writeChkIn =>
    cases hb : s.busy <;> simp only [hostTurn, whileIdle, hb, hbusy, Turn.result] <;> rfl
  all_goals rfl

/-- R39, R160: a step at any other label does not see `cancel`, whoever's turn it is. -/
theorem step_forgetCancel (hc : readsCancel s.seq = false) :
    outcomeUpTo forgetCancel (step s) = outcomeUpTo forgetCancel (step (forgetCancel s)) := by
  have hmoves : (forgetCancel s).moves = s.moves := rfl
  have hengine : ∀ u : State, readsCancel u.seq = false →
      outcomeUpTo forgetCancel (engineTurn u).result = outcomeUpTo forgetCancel (engineTurn (forgetCancel u)).result := by
    intro u hu
    rw [engineTurn_forgetCancel hu, engineTurn_forgetCancel (s := forgetCancel u) hu, forgetCancel_forgetCancel]
  rw [step_eq, step_eq, turn, turn, hmoves]
  cases s.moves with
  | nil => exact hengine s hc
  | cons x r =>
    cases x
    case letEngine => exact hengine { s with moves := r } hc
    case waitIdle =>
      have hbusy : (forgetCancel s).busy = s.busy := rfl
      cases hb : s.busy with
      | true => simpa [hb, hbusy] using hengine s hc
      | false => simp only [hb, hbusy]; rfl
    all_goals exact hostTurn_forgetCancel _ { s with moves := r }

/-- Settles O46: at any other label both steps are alike with the step of the state that both forget to, and no line writes
`cancel`. -/
theorem cancelIsReadAtThreeLabelsOnly : Obligations.CancelIsReadAtThreeLabelsOnly := by
  refine ⟨fun s t hc h => ?alike, fun s t he hs => ?kept⟩
  case alike =>
    have hseq : t.seq = s.seq := (congrArg State.seq h).symm
    rw [step_forgetCancel hc, step_forgetCancel (s := t) (by rw [hseq]; exact hc), h]
  case kept =>
    rcases next_cases hs with ⟨-, -, m, -, h⟩ | ⟨-, -, m, -, rfl⟩ | ⟨he', -⟩
    · exact h.sameInputs.cancel
    · rfl
    · simp [he] at he'

end Sys2Proof.Machine
end

section
/-! PROOFS. R80, R81, R83, R85, R87, R89, R97: decoding and encoding are inverse at every position. Each format is shown on its
own: the codes and the first bytes class by class, a frame by its length byte, a `TX_PREFIX` and an end marker by their bit fields. -/

namespace Sys2Proof.Machine

variable {s : State} {b c l k : Byte} {i : Instr} {bs p rest : List Byte}

/-! ## Format H -/

/-- R80: a code that stands in the low half of a byte. -/
theorem decodeAt_opCode (c : BitVec 4) (rest : List Byte) :
    decodeAt .opCode (c.setWidth 8 :: rest) = .ok (decodeOpCode c) rest := by
  have hwidth : ∀ c : BitVec 4, (c.setWidth 8).toNat < 16 ∧ (c.setWidth 8).setWidth 4 = c := by decide
  obtain ⟨hlt, hback⟩ := hwidth c
  rw [decodeAt, if_pos hlt, hback]

/-- R80, R95: each code is the encoding of its instruction. -/
theorem encode_decodeOpCode : ∀ c : BitVec 4,
    encode (decodeOpCode c) = [c.setWidth 8] ∧ (decodeOpCode c).wf = true ∧ (decodeOpCode c).position = some .opCode := by
  decide

/-- R80: a byte below 16 is a code. -/
theorem setWidth_opCode (h : b.toNat < 16) : (b.setWidth 4).setWidth 8 = b := by
  bv_omega

/-! ## Format S -/

/-- R85, R86: an instruction of the first byte, by the class of the byte. -/
theorem decodeFirstByte_of_ctrl (h : isCtrl b = true) : decodeFirstByte b = .rxCtrl b := by
  rw [decodeFirstByte, (classify_eq_ctrl_iff b).mpr h]

theorem decodeFirstByte_of_other (h : classify b = .other) : decodeFirstByte b = .rxOther b := by
  rw [decodeFirstByte, h]

/-- R85: the one byte of the class of the indication that the bus is lost. -/
theorem classify_eq_linkLost_iff (b : Byte) : classify b = .linkLost ↔ b = 0x03 := by
  revert b; decide

/-- R85: each first byte is the encoding of its instruction. -/
theorem encode_decodeFirstByte (b : Byte) :
    encode (decodeFirstByte b) = [b] ∧ (decodeFirstByte b).wf = true ∧
      (decodeFirstByte b).position = some .firstByte := by
  unfold decodeFirstByte
  cases hc : classify b
  case linkLost => rw [(classify_eq_linkLost_iff b).mp hc]; exact ⟨rfl, rfl, rfl⟩
  case confNeg => rw [(classify_eq_confNeg_iff b).mp hc]; exact ⟨rfl, rfl, rfl⟩
  case confPos => rw [(classify_eq_confPos_iff b).mp hc]; exact ⟨rfl, rfl, rfl⟩
  case ctrl => exact ⟨rfl, (classify_eq_ctrl_iff b).mp hc, rfl⟩
  case other => exact ⟨rfl, (wf_rxOther_iff b).mpr hc, rfl⟩

/-! ## Format C -/

/-- R82, R83: a byte that decodes to a command is its encoding. -/
theorem encode_of_decodeCommand (h : decodeCommand b = some i) :
    encode i = [b] ∧ i.wf = true ∧ i.position = some .command := by
  unfold decodeCommand at h
  repeat' split at h
  all_goals cases h
  all_goals exact ⟨by simp only [encode, *], rfl, rfl⟩

/-! ## Formats P and E -/

/-- R90: the bit fields of `TX_PREFIX`. -/
theorem prefixByte_fields : ∀ n : BitVec 6, (prefixByte n).extractLsb' 6 2 = 2 ∧ (prefixByte n).setWidth 6 = n := by
  decide

/-- R91: the bit fields of an end marker. -/
theorem endByte_fields : ∀ n : BitVec 6, (endByte n).extractLsb' 6 2 = 1 ∧ (endByte n).setWidth 6 = n := by
  decide

/-- R90: a byte with the bits of `TX_PREFIX` is one. -/
theorem prefixByte_setWidth : ∀ b : Byte, b.extractLsb' 6 2 = 2 → prefixByte (b.setWidth 6) = b := by
  decide

/-- R91: a byte with the bits of an end marker is one. -/
theorem endByte_setWidth : ∀ b : Byte, b.extractLsb' 6 2 = 1 → endByte (b.setWidth 6) = b := by
  decide

/-! ## Format F -/

/-- R86, R88: the check of a frame. -/
theorem wf_rxFrame_iff (c s1 s2 d1 d2 l : Byte) (p : List Byte) (k : Byte) :
    (Instr.rxFrame c s1 s2 d1 d2 l p k).wf = true ↔ isCtrl c = true ∧ p.length = (payloadCount l).toNat := by
  simp [Instr.wf]

/-- R87, R88: a frame whose length byte counts its payload. -/
theorem decodeFrameBytes_frame (s1 s2 d1 d2 : Byte) (hc : isCtrl c = true) (hp : p.length = (payloadCount l).toNat)
    (k : Byte) (rest : List Byte) :
    decodeFrameBytes (c :: s1 :: s2 :: d1 :: d2 :: l :: (p ++ k :: rest)) = .ok (.rxFrame c s1 s2 d1 d2 l p k) rest := by
  simp [decodeFrameBytes, hc, ← hp]

/-- R87, R88, R99: bytes that decode to a frame are the frame. -/
theorem encode_of_decodeFrameBytes (h : decodeFrameBytes bs = .ok i rest) :
    bs = encode i ++ rest ∧ i.wf = true ∧ i.position = some .frame := by
  unfold decodeFrameBytes at h
  split at h
  case h_2 => cases h
  case h_1 c s1 s2 d1 d2 l tail =>
    split at h
    case isFalse => cases h
    case isTrue hc =>
      simp only at h
      split at h
      case h_2 => cases h
      case h_1 k r hdrop =>
        cases h
        have hlen : (payloadCount l).toNat ≤ tail.length := by
          by_contra hlt
          rw [List.drop_eq_nil_of_le (by omega)] at hdrop
          cases hdrop
        refine ⟨?_, (wf_rxFrame_iff ..).mpr ⟨hc, by simpa using hlen⟩, rfl⟩
        conv_lhs => rw [← List.take_append_drop (payloadCount l).toNat tail, hdrop]
        simp [encode]

/-! ## The statements -/

/-- Settles O1: format by format. -/
theorem decodeOfEncode : Obligations.DecodeOfEncode := by
  intro i p rest hwf hpos
  cases i <;> simp only [Instr.position, Option.some.injEq, reduceCtorEq] at hpos <;> subst hpos
  case rxCtrl b => exact congrArg (Decoded.ok · rest) (decodeFirstByte_of_ctrl hwf)
  case rxOther b => exact congrArg (Decoded.ok · rest) (decodeFirstByte_of_other ((wf_rxOther_iff b).mp hwf))
  case rxFrame c s1 s2 d1 d2 l p k =>
    obtain ⟨hc, hp⟩ := (wf_rxFrame_iff ..).mp hwf
    simpa [encode, decodeAt] using decodeFrameBytes_frame s1 s2 d1 d2 hc hp k rest
  case rxSiaEcho1 e | rxSiaEcho2 e => simp [encode, decodeAt, pairOf_bytes]
  case txPrefix n =>
    obtain ⟨htag, hidx⟩ := prefixByte_fields n
    have hok : prefixIndexOk n = true := hwf
    simp [encode, decodeAt, htag, hidx, hok]
  case txEnd n =>
    obtain ⟨htag, hidx⟩ := endByte_fields n
    have hok : endLengthOk n = true := hwf
    simp [encode, decodeAt, htag, hidx, hok]
  all_goals rfl

/-- Settles O2: position by position. -/
theorem encodeOfDecode : Obligations.EncodeOfDecode := by
  intro p bs rest i h
  unfold decodeAt at h
  split at h
  case h_1 => exact encode_of_decodeFrameBytes h
  case h_2 | h_3 => cases h; exact ⟨by simp [encode, hiByte_pairOf, loByte_pairOf], rfl, rfl⟩
  case h_4 | h_5 | h_6 => cases h
  case h_7 b r =>
    split at h <;> cases h
    rename_i hlt
    obtain ⟨hcode, hwf, hpos⟩ := encode_decodeOpCode (b.setWidth 4)
    exact ⟨by rw [hcode, setWidth_opCode hlt]; rfl, hwf, hpos⟩
  case h_8 b r =>
    cases h
    obtain ⟨hcode, hwf, hpos⟩ := encode_decodeFirstByte b
    exact ⟨by rw [hcode]; rfl, hwf, hpos⟩
  case h_9 b r | h_10 b r =>
    split at h <;> cases h
    rename_i hb
    exact ⟨by rw [hb]; rfl, rfl, rfl⟩
  case h_11 b r =>
    split at h <;> cases h
    rename_i hb
    obtain ⟨hcode, hwf, hpos⟩ := encode_of_decodeCommand hb
    exact ⟨by rw [hcode]; rfl, hwf, hpos⟩
  case h_13 b r =>
    split at h <;> cases h
    rename_i hb
    exact ⟨by simp [encode, prefixByte_setWidth b hb.1], hb.2, rfl⟩
  case h_15 b r =>
    split at h <;> cases h
    rename_i hb
    exact ⟨by simp [encode, endByte_setWidth b hb.1], hb.2, rfl⟩
  case h_12 | h_14 | h_16 => cases h; exact ⟨rfl, rfl, rfl⟩

/-- R86: the eight control fields. -/
theorem isCtrl_iff_mem (b : Byte) :
    isCtrl b = true ↔ b ∈ [0x90, 0x94, 0x98, 0x9C, 0xB0, 0xB4, 0xB8, 0xBC] := by
  revert b; decide

/-- R85, R96: the bytes of no class of their own. -/
theorem classify_eq_other_iff (b : Byte) :
    classify b = .other ↔ b ∉ [0x03, 0x0B, 0x8B, 0x90, 0x94, 0x98, 0x9C, 0xB0, 0xB4, 0xB8, 0xBC] := by
  revert b; decide

/-- R85: the instruction of a first byte tells its class. -/
theorem decodeAt_firstByte_iff (b : Byte) (i : Instr) : decodeAt .firstByte [b] = .ok i [] ↔ decodeFirstByte b = i := by
  simp [decodeAt]

/-- Settles O3: the five classes, each by its bytes. -/
theorem firstByteClassesOfTheTable : Obligations.FirstByteClassesOfTheTable := by
  intro b
  simp only [decodeAt_firstByte_iff]
  rw [← classify_eq_linkLost_iff, ← classify_eq_confNeg_iff, ← classify_eq_confPos_iff, ← isCtrl_iff_mem,
    ← classify_eq_other_iff, ← classify_eq_ctrl_iff]
  unfold decodeFirstByte
  cases classify b <;> simp

/-- Settles O4: each word is decoded. -/
theorem wordsOfTheSpecDecode : Obligations.WordsOfTheSpecDecode :=
  ⟨rfl, rfl, rfl, rfl, rfl, rfl, rfl, rfl, rfl, rfl, rfl⟩

/-! ## The instruction that a step runs -/

/-- R22, R23: the engine's turn runs the instruction that the label selects. -/
theorem step_fetchMicro (hb : s.busy = true) (hm : s.moves = []) : step s = exec (fetchMicro s) s := by
  rw [step_engine hm hb, exec_fetchMicro hb]

/-- R89: the response latched, where it decodes. -/
theorem responseOr_of_decodeAt {q : Position} {i j : Instr} (ht : s.rxTimeout = false)
    (h : decodeAt q [s.rxb] = .ok j []) : responseOr q i s = j := by
  simp [responseOr, ht, h]

/-- Settles O5: the pulse runs its code, and the engine what `fetchMicro` reads at the label. -/
theorem stepRunsTheDecodedInstruction : Obligations.StepRunsTheDecodedInstruction := by
  refine ⟨?pulse, ?firstByte, ?resetResponse, ?stateResponse, fun s hb hm => step_fetchMicro hb hm⟩
  case pulse =>
    intro s c r i hm hb h
    rw [decodeAt_opCode] at h
    cases h
    exact step_opStart_idle hm hb
  case firstByte =>
    intro s i ⟨hb, hm, hl⟩ h
    rw [step_fetchMicro hb hm, fetchMicro, hl]
    exact congrArg (exec · s) ((decodeAt_firstByte_iff _ _).mp h)
  case resetResponse =>
    intro s i ⟨hb, hm, hl⟩ ht h
    rw [step_fetchMicro hb hm, fetchMicro, hl]
    exact congrArg (exec · s) (responseOr_of_decodeAt ht h)
  case stateResponse =>
    intro s i ⟨hb, hm, hl⟩ ht h
    rw [step_fetchMicro hb hm, fetchMicro, hl]
    exact congrArg (exec · s) (responseOr_of_decodeAt ht h)

end Sys2Proof.Machine
end

section
/-! PROOFS. R32, R39, R44, R80, R81, R98, R101, R210: the moves of the host and the platform one by one, a `LOAD` line as a run
of writes, the values at reset, and the instructions that are refused off their labels. -/

namespace Sys2Proof.Machine

variable {s : State} {x : HostMove} {r : List HostMove}

/-! ## The moves -/

/-- Log 2: a pending move that is no turn of the engine is made by the step. -/
theorem step_hostMove (hm : s.moves = x :: r) (hx : engineNext [x] = false) :
    step s = (hostTurn x { s with moves := r }).result := by
  rw [step_eq, turn, hm]
  cases x
  case waitIdle | letEngine => cases hx
  all_goals rfl

/-- R32: a write of an operand by the host on an idle block. -/
theorem step_write_idle {f : State → State} (hm : s.moves = x :: r) (hx : engineNext [x] = false)
    (hturn : ∀ u, hostTurn x u = .settled (whileIdle u f)) (hb : s.busy = false) :
    step s = .next (f { s with moves := r }) := by
  rw [step_hostMove hm hx, hturn, whileIdle, if_neg (by simp [hb])]
  rfl

/-- R32, R221: the same while an operation runs. -/
theorem step_write_busy {f : State → State} (hm : s.moves = x :: r) (hx : engineNext [x] = false)
    (hturn : ∀ u, hostTurn x u = .settled (whileIdle u f)) (hb : s.busy = true) :
    step s = .next { s with moves := r } := by
  rw [step_hostMove hm hx, hturn, whileIdle, if_pos hb]
  rfl

/-- R50: a byte of `TXB` after a write. -/
theorem txbByte_write (s : State) (i : Nat) (b : Byte) (a : Nat) :
    State.txbByte { s with txb := Memory.write s.txb i b } a = if a = i then b else s.txbByte a := by
  simp only [State.txbByte, Memory.read?_write]
  split <;> rfl

/-- Settles O48: the writes of operands are made while the block is idle, the other moves at once. -/
theorem hostWritesTakeEffectWhileIdle : Obligations.HostWritesTakeEffectWhileIdle := by
  intro s r
  refine ⟨?txb, ?txLen, ?chkIn, ?cancel, ?strap, ?opened, ?answer, ?flushChoice⟩
  case txb =>
    intro i b hm
    by_cases hb : s.busy = true
    · exact ⟨s.txb, step_write_busy hm rfl (fun _ => rfl) hb, by simp [hb, State.txbByte]⟩
    · rw [Bool.not_eq_true] at hb
      refine ⟨Memory.write s.txb i.val b, step_write_idle hm rfl (fun _ => rfl) hb, fun a => ?_⟩
      rw [txbByte_write]
      simp [hb]
  case txLen =>
    intro n hm
    by_cases hb : s.busy = true
    · rw [step_write_busy hm rfl (fun _ => rfl) hb, if_pos hb]
    · rw [step_write_idle hm rfl (fun _ => rfl) (by simpa using hb), if_neg hb]
  case chkIn =>
    intro b hm
    by_cases hb : s.busy = true
    · rw [step_write_busy hm rfl (fun _ => rfl) hb, if_pos hb]
    · rw [step_write_idle hm rfl (fun _ => rfl) (by simpa using hb), if_neg hb]
  case cancel => exact fun v hm => step_hostMove hm rfl
  case strap => exact fun v hm => step_hostMove hm rfl
  case opened => exact fun v hm => step_hostMove hm rfl
  case answer => exact fun a hm => step_hostMove hm rfl
  case flushChoice => exact fun n hm => step_hostMove hm rfl

/-! ## A `LOAD` line -/

/-- R98: bytes that do not fit into `TXB` have no moves. -/
theorem loadMoves_eq_none {i : Nat} {bs : List Byte} (hi : i ≤ 63) (h : 63 < i + bs.length) : loadMoves i bs = none := by
  induction bs generalizing i with
  | nil => simp at h; omega
  | cons b bs ih =>
    rw [List.length_cons] at h
    rw [loadMoves]
    split
    · rw [ih (by omega) (by omega), Option.map_none]
    · rfl

/-- R50, R101: the writes of bytes that fit, made on an idle block. -/
theorem steps_loadMoves {i : Nat} {bs : List Byte} (h : i + bs.length ≤ 63) :
    ∃ ms, loadMoves i bs = some ms ∧ ∀ (s : State) (r : List HostMove), s.busy = false → s.moves = ms ++ r →
      steps ms.length s = .next { s with moves := r, txb := writeRun s.txb i bs } := by
  induction bs generalizing i with
  | nil =>
    refine ⟨[], rfl, fun s r _ hm => ?_⟩
    rw [List.nil_append] at hm
    rw [← hm]
    rfl
  | cons b bs ih =>
    rw [List.length_cons] at h
    have hi : i < 63 := by omega
    obtain ⟨ms, hms, hrun⟩ := ih (i := i + 1) (by omega)
    refine ⟨.writeTxb ⟨i, hi⟩ b :: ms, by rw [loadMoves, dif_pos hi, hms, Option.map_some], fun s r hb hm => ?_⟩
    rw [List.length_cons, steps_succ (step_write_idle hm rfl (fun _ => rfl) hb)]
    exact hrun { s with moves := ms ++ r, txb := Memory.write s.txb i b } r hb rfl

/-- R50, R101: a run of bytes written from the first on reads as these bytes. -/
theorem txbytes_writeRun (s : State) (bs : List Byte) :
    State.txbytes { s with txb := writeRun s.txb 0 bs } bs.length = bs := by
  refine List.ext_getElem (by simp [State.txbytes]) fun j _ hj => ?_
  simp [State.txbytes, State.txbByte, read?_writeRun, hj]

/-- R50, R101: behind the run `TXB` reads as before. -/
theorem txbByte_writeRun_of_le (s : State) (bs : List Byte) {a : Nat} (ha : bs.length ≤ a) :
    State.txbByte { s with txb := writeRun s.txb 0 bs } a = s.txbByte a := by
  have hout : ¬(0 ≤ a ∧ a < 0 + bs.length) := by omega
  rw [State.txbByte, read?_writeRun, if_neg hout]
  rfl

/-- Settles O49: the writes of the bytes and then the one of `tx_len`. -/
theorem loadPutsTheFrame : Obligations.LoadPutsTheFrame := by
  intro bs
  refine ⟨fun hlen => ?fits, fun hlen => ?long⟩
  case long => rw [HostLine.moves, loadMoves_eq_none (Nat.zero_le 63) (by omega), Option.map_none]
  case fits =>
    obtain ⟨ms, hms, hrun⟩ := steps_loadMoves (i := 0) (bs := bs) (by omega)
    refine ⟨ms ++ [.writeTxLen (BitVec.ofNat 6 bs.length)], by rw [HostLine.moves, hms, Option.map_some], ?_⟩
    intro s r hb hm
    rw [List.append_assoc] at hm
    have hcount : (BitVec.ofNat 6 bs.length).toNat = bs.length := by simp; omega
    refine ⟨writeRun s.txb 0 bs, ?run, ?frame, fun a ha => txbByte_writeRun_of_le s bs ha⟩
    case run =>
      have hlast (u : State) (hu : u.busy = false) (hmu : u.moves = [.writeTxLen (BitVec.ofNat 6 bs.length)] ++ r) :
          step u = .next { u with moves := r, txLen := BitVec.ofNat 6 bs.length } :=
        step_write_idle hmu rfl (fun _ => rfl) hu
      rw [List.length_append, steps_add (hrun s _ hb hm)]
      exact steps_succ (hlast { s with moves := _, txb := writeRun s.txb 0 bs } hb rfl) 0
    case frame =>
      rw [State.txFrame, hcount]
      exact txbytes_writeRun s bs

/-! ## Reset -/

/-- Settles O55: each value is the one of the definition. -/
theorem resetValues : Obligations.ResetValues :=
  ⟨rfl, rfl, rfl, rfl, rfl, rfl, rfl, rfl, rfl, rfl⟩

/-- Settles O56: each code is the one of the definition. -/
theorem codesOfTheTables : Obligations.CodesOfTheTables :=
  ⟨rfl, rfl, rfl⟩

/-- Settles O57: the step is `hwReset` of the state without the move. -/
theorem hardwareResetAtAnyTime : Obligations.HardwareResetAtAnyTime := by
  intro s r hm
  refine ⟨hwReset { s with moves := r }, step_hostMove hm rfl, ?_⟩
  repeat' constructor

/-! ## Instructions off their labels -/

/-- Settles O58: the received bytes test their one label, and the others have a line at their labels only. -/
theorem offPositionIsRefused : Obligations.OffPositionIsRefused := by
  intro s i ls hls hl
  cases i <;> simp only [labelsOf, Option.some.injEq, reduceCtorEq] at hls <;> subst hls
  case rxLinklost | rxConfNeg | rxConfPos | rxCtrl | rxOther | rxFrame | rxResetAck | rxStateReady | rxSiaEcho1 |
      rxSiaEcho2 => exact if_neg (by simpa using hl)
  all_goals
    simp only [List.mem_cons, List.not_mem_nil, or_false, not_or] at hl
    simp_all [exec, execDecode, execEncode, execTxResetReq, execTxStateReq, execTxWriteProp, execTxReadProp, execTxAddrHi,
      execTxAddrLo, execTxValue, execTxPrefix, execTxData, execTxEnd, execTxChecksum]

end Sys2Proof.Machine
end

section
/-! PROOFS. R82 to R91, R120, R122, R140 to R149, R155, R156, R160: what each byte does at its label, and the ends and retries
of the bring-up loops. -/

namespace Sys2Proof.Machine

variable {s : State} {b : Byte} {l : Label}

/-! ## The first byte of a `DECODE` -/

/-- R81: an instruction at its label. -/
theorem atLabel_of_eq (h : s.seq = l) (r : Result) : atLabel l s r = r := if_pos h

/-- Settles O14: each class but the control fields fails the `DECODE`. -/
theorem firstByteOutcomes : Obligations.FirstByteOutcomes := by
  intro s hl
  refine ⟨⟨[], s.rxbEpoch + 1, atLabel_of_eq hl _⟩, ⟨[], s.rxbEpoch + 1, atLabel_of_eq hl _⟩,
    ⟨[], s.rxbEpoch + 1, atLabel_of_eq hl _⟩, fun b hb => ⟨[], s.rxbEpoch + 1, ?_⟩⟩
  exact (atLabel_of_eq hl _).trans (if_pos ((wf_rxOther_iff b).mp hb))

/-- R120, R121: a control field where there is room. -/
theorem takeCtrl_room (b : Byte) (h : s.rxLen.toNat < rxMax) :
    takeCtrl b s = .next
      { s with
        seq := .decAddr, cnt := 4, rxbuf := Memory.write s.rxbuf s.rxLen.toNat b, rxLen := s.rxLen + 1,
        acc := s.acc ^^^ b } := by
  rw [takeCtrl, push_ok h]
  rfl

/-- Settles O15: a control field is pushed. -/
theorem controlFieldIsPushed : Obligations.ControlFieldIsPushed := by
  intro s b hl hroom hb
  refine ⟨_, ?_, rxbByte_push s b⟩
  exact (atLabel_of_eq hl _).trans ((if_pos hb).trans (takeCtrl_room b hroom))

/-! ## The bytes of `WRITE` -/

/-- R90, R91: `TX_PREFIX` and the end marker as numbers. -/
theorem prefixByte_eq (i : BitVec 6) : prefixByte i = BitVec.ofNat 8 (0x80 + i.toNat) := by
  rw [← prefixByte_ofNat i.isLt, BitVec.ofNat_toNat, BitVec.setWidth_eq]

theorem endByte_eq (n : BitVec 6) : endByte n = BitVec.ofNat 8 (0x40 + n.toNat) := by
  rw [← endByte_ofNat n.isLt, BitVec.ofNat_toNat, BitVec.setWidth_eq]

/-- R174: a frame byte sent, absorbed and counted. -/
theorem sendData_open (d : Byte) (ho : s.isOpen = true) :
    sendData d s = .next
      { s with
        seq := if (s.idx + 1).toNat < s.txLen.toNat then .wrPfx else .wrEnd, idx := s.idx + 1, acc := s.acc ^^^ d,
        txStream := s.txStream ++ [d], events := s.events ++ [.tx d] } := by
  simp [sendData, whenOpen_open _ ho, moreToSend, goto, csAbsorb, twrite, emit]

/-- R174: the checksum sent, and the operation finished. -/
theorem sendChecksum_open (k : Byte) (ho : s.isOpen = true) :
    sendChecksum k s = .next
      { s with
        seq := .idle, busy := false, resOk := true, resCode := .none, txStream := s.txStream ++ [k],
        events := s.events ++ [.tx k, .done s.curOp true .none] } := by
  simp [sendChecksum, whenOpen_open _ ho, finish, twrite, emit]

/-- Settles O24: each byte at its label. -/
theorem transmitFrameBytes : Obligations.TransmitFrameBytes := by
  intro s ho
  refine ⟨fun hl i hi => ?pfx, fun hl d => ?dat, fun hl n hn => ?mark, fun hl k => ?chk⟩
  case pfx =>
    have hok : prefixIndexOk i = true := decide_eq_true hi
    simp only [exec, execTxPrefix, hl, if_pos hok, send_open _ _ ho, prefixByte_eq]
  case dat => simp only [exec, execTxData, hl, sendData_open d ho]
  case mark =>
    have hok : endLengthOk n = true := decide_eq_true hn
    simp only [exec, execTxEnd, hl, if_pos hok, send_open _ _ ho, endByte_eq]
  case chk => simp only [exec, execTxChecksum, hl, sendChecksum_open k ho]

/-! ## The bytes of the bring-up -/

/-- Settles O36: each of the eleven sends its operand and goes on. -/
theorem commandAndValueBytes : Obligations.CommandAndValueBytes := by
  intro s v x ho hx hl
  have hsend : exec x.1 s = send x.2.2.1 x.2.2.2 s := by
    simp only [List.mem_cons, List.not_mem_nil, or_false] at hx
    rcases hx with rfl | rfl | rfl | rfl | rfl | rfl | rfl | rfl | rfl | rfl | rfl <;>
      simp only [exec, execTxResetReq, execTxWriteProp, execTxReadProp, execTxAddrHi, execTxAddrLo, execTxValue, hl] <;> rfl
  rw [hsend, send_open _ _ ho]

/-- Settles O37: the write of `link_state` and then the byte. -/
theorem stateRequestByte : Obligations.StateRequestByte := by
  intro s ho hl
  simp only [exec, execTxStateReq, hl, setLink_record]
  exact send_open _ _ ho

/-- Settles O38: a flush drops from the front. -/
theorem flushDiscardsFromTheFront : Obligations.FlushDiscardsFromTheFront := by
  intro s ho
  obtain ⟨k, p, hflush⟩ := tflush_drops .tFlush s
  exact ⟨k, p, (whenOpen_open _ ho).trans (congrArg Host.Outcome.next hflush)⟩

/-! ## The responses -/

/-- R24: a `RESET`, a `SETADDR` or a `CHKSTATE` that `INIT` called returns to it. -/
theorem endReset_init {ok : Bool} {c : ResCode} (hop : s.curOp = .init) (hc : c ≠ .cancelled) :
    endReset ok c s = returnSub ok c .iniSia s := by
  simp [endReset, hop, hc]

theorem endSetaddr_init {ok : Bool} {c : ResCode} (hop : s.curOp = .init) (hc : c ≠ .cancelled) :
    endSetaddr ok c s = returnSub ok c .iniChk s := by
  simp [endSetaddr, hop, hc]

theorem endChkstate_init {ok : Bool} {c : ResCode} (hop : s.curOp = .init) :
    endChkstate ok c s = returnSub ok c .iniEnd s := by
  simp [endChkstate, hop]

/-- R170, R171: to `READ` a `CHKSTATE` returns without its result. -/
theorem endChkstate_read {ok : Bool} {c : ResCode} (hop : s.curOp = .read) : endChkstate ok c s = goto .rdEnd s := by
  simp [endChkstate, hop]

/-- R143: the acknowledgement, for the host and for `INIT`. -/
theorem takeResetAck_host (hop : s.curOp = .reset) :
    takeResetAck s =
      { s with
        seq := .idle, busy := false, linkState := .addressAssigning, resOk := true, resCode := .none,
        events := s.events ++ linkEvent s.linkState .addressAssigning ++ [.done .reset true .none] } := by
  rw [takeResetAck, endReset_host (by simp [hop]), setLink_record, ← hop]
  rfl

theorem takeResetAck_init (hop : s.curOp = .init) :
    takeResetAck s =
      { s with
        seq := .iniSia, linkState := .addressAssigning, retOk := true, retCode := .none,
        events := s.events ++ linkEvent s.linkState .addressAssigning } := by
  rw [takeResetAck, endReset_init (by simpa using hop) (by decide), setLink_record]
  rfl

/-- R140: the ready byte, for the host, for `INIT` and for `READ`. -/
theorem takeReady_host (hop : s.curOp = .chkstate) :
    takeReady s =
      { s with
        seq := .idle, busy := false, linkState := .ready, resOk := true, resCode := .none,
        events := s.events ++ linkEvent s.linkState .ready ++ [.done .chkstate true .none] } := by
  rw [takeReady, endChkstate_host (by simp [hop]) (by simp [hop]), setLink_record, ← hop]
  rfl

theorem takeReady_init (hop : s.curOp = .init) :
    takeReady s =
      { s with
        seq := .iniEnd, linkState := .ready, retOk := true, retCode := .none,
        events := s.events ++ linkEvent s.linkState .ready } := by
  rw [takeReady, endChkstate_init (by simpa using hop), setLink_record]
  rfl

theorem takeReady_read (hop : s.curOp = .read) :
    takeReady s =
      { s with seq := .rdEnd, linkState := .ready, events := s.events ++ linkEvent s.linkState .ready } := by
  rw [takeReady, endChkstate_read (by simpa using hop), setLink_record]
  rfl

/-- R147: the second echo, for the host and for `INIT`. -/
theorem takeSecondEcho_host (hop : s.curOp = .setaddr) :
    takeSecondEcho s =
      { s with
        seq := .idle, busy := false, linkState := .stateChecking, resOk := true, resCode := .none,
        events := s.events ++ linkEvent s.linkState .stateChecking ++ [.done .setaddr true .none] } := by
  rw [takeSecondEcho, endSetaddr_host (by simp [hop]), setLink_record, ← hop]
  rfl

theorem takeSecondEcho_init (hop : s.curOp = .init) :
    takeSecondEcho s =
      { s with
        seq := .iniChk, linkState := .stateChecking, retOk := true, retCode := .none,
        events := s.events ++ linkEvent s.linkState .stateChecking } := by
  rw [takeSecondEcho, endSetaddr_init (by simpa using hop) (by decide), setLink_record]
  rfl

/-- Settles O35: each response at its label, by the operation that it ends. -/
theorem handshakeResponses : Obligations.HandshakeResponses := by
  intro s
  refine ⟨?_, ?_, ?_, ?_, ?_, ?_, ?_, ?_, ?_⟩
  · exact fun hl hop => (atLabel_of_eq hl _).trans (congrArg Host.Outcome.next (takeResetAck_host hop))
  · exact fun hl hop => (atLabel_of_eq hl _).trans (congrArg Host.Outcome.next (takeResetAck_init hop))
  · exact fun hl hop => (atLabel_of_eq hl _).trans (congrArg Host.Outcome.next (takeReady_host hop))
  · exact fun hl hop => (atLabel_of_eq hl _).trans (congrArg Host.Outcome.next (takeReady_init hop))
  · exact fun hl hop => (atLabel_of_eq hl _).trans (congrArg Host.Outcome.next (takeReady_read hop))
  · exact fun hl e => atLabel_of_eq hl _
  · exact fun hl e he => (atLabel_of_eq hl _).trans (if_neg he)
  · exact fun hl hop =>
      ((atLabel_of_eq hl _).trans (if_pos rfl)).trans (congrArg Host.Outcome.next (takeSecondEcho_host hop))
  · exact fun hl hop =>
      ((atLabel_of_eq hl _).trans (if_pos rfl)).trans (congrArg Host.Outcome.next (takeSecondEcho_init hop))

/-! ## The loops -/

/-- Settles O34: the three labels that read `cancel`. -/
theorem cancelEndsTheLoops : Obligations.CancelEndsTheLoops := by
  intro s hb hm hc
  have hline {t : State} (h : Micro s t) : step s = .next t := (step_engine hm hb).trans (next_of_micro h)
  refine ⟨?alone, ?called⟩
  case alone =>
    rintro (⟨hl, hop⟩ | ⟨hl, hop⟩ | ⟨hl, -⟩)
    · rw [hline (.rstTopCancel hl hc), endReset_host (by simp [hop])]; rfl
    · rw [hline (.siaTopCancel hl hc), endSetaddr_host (by simp [hop])]; rfl
    · exact hline (.iniTopCancel hl hc)
  case called =>
    rintro ⟨hl | hl, hop⟩
    · rw [hline (.rstTopCancel hl hc)]; simp [endReset, hop, finish, returnSub, emit]
    · rw [hline (.siaTopCancel hl hc)]; simp [endSetaddr, hop, finish, returnSub, emit]

/-- Settles O32: the start and the line `INI_OPEN`. -/
theorem initOnAClosedTransport : Obligations.InitOnAClosedTransport := by
  intro s hr ho
  refine ⟨_, exec_opCode_defined (op := .init) hr.1 (by decide), ?_⟩
  have ⟨hb, hm, hl⟩ := startOp_runsAt .init hr
  refine steps_of_line hb hm (next_of_micro (.iniOpenNo hl (by simpa [startOp_record] using ho))) ?_
  simp [startOp_record, entryLink, finish, emit]

/-- R155, R158: `INI_END` after a sub-operation that failed leads back to the entry of `RESET`. -/
theorem steps_initRetry (hr : s.runsAt .iniEnd) (hret : s.retOk = false) (hc : s.cancel = false) :
    steps 3 s = .next
      { s with
        seq := .rstTop, linkState := .resetting,
        events := s.events ++ [.retry .init] ++ linkEvent s.linkState .resetting } := by
  obtain ⟨hb, hm, hl⟩ := hr
  refine steps_of_line hb hm (next_of_micro (.iniEndRetry hl hret)) ?_
  refine steps_of_line hb hm (next_of_micro (.iniTopGo rfl hc)) ?_
  exact steps_of_line hb hm (next_of_micro (.iniRst rfl)) rfl

/-- R140, R155: a `CHKSTATE` that `INIT` called, with a timeout or a wrong byte. -/
theorem lineChkEnd_init_failed (hop : s.curOp = .init) (hbad : s.rxTimeout = true ∨ s.rxb ≠ 0x07) :
    lineChkEnd s = .next
      { s with seq := .iniEnd, retOk := false, retCode := if s.rxTimeout then .timeout else .none } := by
  have hready : readyReceived s = false := by
    rcases hbad with ht | hb
    · exact readyReceived_of_rxTimeout ht
    · simp [readyReceived, show s.rxb ≠ stateReady from hb]
  cases ht : s.rxTimeout <;> simp [lineChkEnd, hready, ht, endChkstate_init hop, returnSub]

/-- Settles O33: the line `CHK_END`, and the three lines from `INI_END` to `RST_TOP`. -/
theorem initRetriesFromReset : Obligations.InitRetriesFromReset := by
  refine ⟨fun s hr hop hbad => ?check, fun s hr hop hret hc => ⟨3, steps_initRetry hr hret hc⟩⟩
  case check =>
    have ⟨hb, hm, hl⟩ := hr
    have hline : step s = .next
        { s with seq := .iniEnd, retOk := false, retCode := if s.rxTimeout then .timeout else .none } := by
      rw [step_engine hm hb, microLine, hl]
      exact lineChkEnd_init_failed hop hbad
    exact ⟨hline, fun hc => ⟨4, (steps_succ hline 3).trans (steps_initRetry ⟨hb, hm, rfl⟩ rfl hc)⟩⟩

end Sys2Proof.Machine
end

section
/-! PROOFS. R147 to R155: `SETADDR` and `INIT` as runs. An iteration of `SETADDR` asks for the first echo, reads it, sends the
address, asks for the second echo and reads it. The two reads of an echo go alike at both places; after one that is wrong or
missing the iteration ends with a flush and starts again. -/

namespace Sys2Proof.Machine

variable {s t u : State} {r : List Answer} {first second cmp : Label}

/-- A run and another one after it. -/
theorem steps_trans {m n : Nat} {x : Result} (h : steps m s = .next t) (hrest : steps n t = x) : steps (m + n) s = x :=
  (steps_add h n).trans hrest

/-! ## The two reads of an echo -/

/-- R59, R147: the labels `first` and `second` read an echo, which `cmp` compares. -/
structure ReadsEcho (first second cmp : Label) : Prop where
  first_line : ∀ s : State, s.seq = first → microLine s = readEchoFirst second cmp s
  second_line : ∀ s : State, s.seq = second → microLine s = readEchoSecond cmp s

theorem sia2b_readsEcho : ReadsEcho .sia2b .sia2bSecond .sia2c :=
  ⟨fun s h => by rw [microLine, h]; rfl, fun s h => by rw [microLine, h]; rfl⟩

theorem sia6b_readsEcho : ReadsEcho .sia6b .sia6bSecond .sia6c :=
  ⟨fun s h => by rw [microLine, h]; rfl, fun s h => by rw [microLine, h]; rfl⟩

/-- R59: both bytes answered. -/
theorem ReadsEcho.steps_pair (hread : ReadsEcho first second cmp) {h l : Byte} (hr : s.runsAt first)
    (ho : s.isOpen = true) (ha : s.rxStream = .byte h :: .byte l :: r) :
    steps 2 s = .next
      { s with
        seq := cmp, rxStream := r, rxb := l, rxTimeout := false, echo := pairOf h l,
        events := s.events ++ [.rx h, .rx l] } := by
  obtain ⟨hb, hm, hl⟩ := hr
  refine steps_of_line hb hm ((hread.first_line s hl).trans (readByte_byte ho ha)) ?_
  refine steps_of_line hb hm ((hread.second_line _ rfl).trans (readByte_byte ho rfl)) ?_
  simp [goto, hiByte_pairOf]

/-- R205: an event of a read with the label `T_SHORT`. -/
def Event.isShortRead : Event → Bool
  | .rx _ => true
  | .rxTimeout .tShort => true
  | _ => false

/-- R59, R150: whatever is answered, with `r` left: some reads are recorded, and if it is not the pair `e`, none is latched
as `e`. -/
theorem ReadsEcho.steps_wrong (hread : ReadsEcho first second cmp) {x : Option (List Byte)} {e : Pair}
    (hr : s.runsAt first) (ho : s.isOpen = true) (ha : readBytes 2 s.rxStream = (x, r))
    (hx : x ≠ some [hiByte e, loByte e]) :
    ∃ n latch timeout pair, ∃ reads : List Event, reads.all Event.isShortRead = true ∧
      (timeout = true ∨ pair ≠ e) ∧
      steps n s = .next
        { s with
          seq := cmp, rxStream := r, rxb := latch, rxTimeout := timeout, echo := pair, events := s.events ++ reads } := by
  have ⟨hb, hm, hl⟩ := hr
  rcases answer_cases s.rxStream with ⟨r', hr'⟩ | ⟨h, r', hr'⟩
  · rw [readBytes_succ_timeout hr'] at ha
    cases ha
    refine ⟨1, s.rxb, true, s.echo, [.rxTimeout .tShort], rfl, .inl rfl, ?_⟩
    exact steps_of_line hb hm ((hread.first_line s hl).trans (readByte_timeout ho hr')) rfl
  · rcases answer_cases r' with ⟨r'', hr''⟩ | ⟨l, r'', rfl⟩
    · rw [hr', readBytes_succ_byte, readBytes_succ_timeout hr''] at ha
      cases ha
      refine ⟨2, h, true, pairOf h (loByte s.echo), [.rx h, .rxTimeout .tShort], rfl, .inl rfl, ?_⟩
      refine steps_of_line hb hm ((hread.first_line s hl).trans (readByte_byte ho hr')) ?_
      refine steps_of_line hb hm ((hread.second_line _ rfl).trans (readByte_timeout ho hr'')) ?_
      simp [goto]
    · rw [hr', readBytes_succ_byte, readBytes_succ_byte] at ha
      cases ha
      refine ⟨2, l, false, pairOf h l, [.rx h, .rx l], rfl, .inr fun he => hx ?_, hread.steps_pair hr ho hr'⟩
      rw [← he, hiByte_pairOf, loByte_pairOf]
      rfl

/-- R149, R150: the comparison with the pair expected. -/
theorem echoReceived_iff (e : Pair) (s : State) : echoReceived e s = true ↔ s.rxTimeout = false ∧ s.echo = e := by
  simp [echoReceived]

theorem echoReceived_eq_false {e : Pair} (h : s.rxTimeout = true ∨ s.echo ≠ e) : echoReceived e s = false := by
  rw [Bool.eq_false_iff, Ne, echoReceived_iff]
  rintro ⟨ht, he⟩
  rcases h with h | h
  · simp [ht] at h
  · exact h he

/-! ## The parts of an iteration of `SETADDR` -/

/-- R147: the request of the first echo. -/
theorem steps_askFirstEcho (hr : s.runsAt .siaTop) (ho : s.isOpen = true) (hc : s.cancel = false) :
    steps 4 s = .next
      { s with
        seq := .sia2b, txStream := s.txStream ++ [0x22, 0x00, 0x1A],
        events := s.events ++ [.tx 0x22, .tx 0x00, .tx 0x1A] } := by
  obtain ⟨hb, hm, hl⟩ := hr
  refine steps_of_line hb hm (next_of_micro (.siaTopGo hl hc)) ?_
  refine steps_of_line hb hm (next_of_micro (.sia1a rfl ho)) ?_
  refine steps_of_line hb hm (next_of_micro (.sia1b rfl ho)) ?_
  refine steps_of_line hb hm (next_of_micro (.sia2a rfl ho)) ?_
  simp only [steps_zero, List.append_assoc]
  rfl

/-- R147, R148, R152: the address, the settle delay and the request of the second echo. -/
theorem steps_sendAddress (hr : s.runsAt .sia3a) (ho : s.isOpen = true) :
    steps 8 s = .next
      { s with
        seq := .sia6b, txStream := s.txStream ++ [0x1F, hiByte s.ia, 0x1E, loByte s.ia, 0x22, 0x01, 0x1A],
        events := s.events ++
          [.tx 0x1F, .tx (hiByte s.ia), .tx 0x1E, .tx (loByte s.ia), .tx 0x22, .tx 0x01, .delay .tSettle, .tx 0x1A] } := by
  obtain ⟨hb, hm, hl⟩ := hr
  refine steps_of_line hb hm (next_of_micro (.sia3a hl ho)) ?_
  refine steps_of_line hb hm (next_of_micro (.sia3b rfl ho)) ?_
  refine steps_of_line hb hm (next_of_micro (.sia4a rfl ho)) ?_
  refine steps_of_line hb hm (next_of_micro (.sia4b rfl ho)) ?_
  refine steps_of_line hb hm (next_of_micro (.sia5a rfl ho)) ?_
  refine steps_of_line hb hm (next_of_micro (.sia5b rfl ho)) ?_
  refine steps_of_line hb hm (next_of_micro (.sia5c rfl)) ?_
  refine steps_of_line hb hm (next_of_micro (.sia6a rfl ho)) ?_
  simp only [steps_zero, List.append_assoc]
  rfl

/-- R205: the events of an iteration up to the request of the second echo, with the address `ia` and the first echo `e1`. -/
def addressEvents (ia e1 : Pair) : List Event :=
  [.tx 0x22, .tx 0x00, .tx 0x1A, .rx (hiByte e1), .rx (loByte e1), .tx 0x1F, .tx (hiByte ia), .tx 0x1E, .tx (loByte ia),
    .tx 0x22, .tx 0x01, .delay .tSettle, .tx 0x1A]

/-- R147: an iteration up to the reads of the second echo, the first one being as expected. -/
theorem steps_firstEcho (hr : s.runsAt .siaTop) (ho : s.isOpen = true) (hc : s.cancel = false)
    (ha : s.rxStream = .byte (hiByte s.siaEcho1) :: .byte (loByte s.siaEcho1) :: r) :
    steps 15 s = .next
      { s with
        seq := .sia6b, rxStream := r, rxb := loByte s.siaEcho1, echo := s.siaEcho1, rxTimeout := false,
        txStream := s.txStream ++ setaddrBytes s.ia, events := s.events ++ addressEvents s.ia s.siaEcho1 } := by
  have ⟨hb, hm, _⟩ := hr
  refine steps_trans (m := 4) (n := 11) (steps_askFirstEcho hr ho hc) ?_
  refine steps_trans (m := 2) (n := 9) (sia2b_readsEcho.steps_pair ⟨hb, hm, rfl⟩ ho ha) ?_
  refine steps_of_line hb hm (next_of_micro (.sia2cMatch rfl ((echoReceived_iff _ _).mpr ⟨rfl, pairOf_bytes _⟩))) ?_
  refine (steps_sendAddress ⟨by exact hb, by exact hm, rfl⟩ (by exact ho)).trans ?_
  simp only [List.append_assoc, pairOf_bytes]
  rfl

/-- R147, R149: an iteration up to its end, both echoes being as expected. -/
theorem steps_bothEchoes (hr : s.runsAt .siaTop) (ho : s.isOpen = true) (hc : s.cancel = false)
    (ha : s.rxStream =
      .byte (hiByte s.siaEcho1) :: .byte (loByte s.siaEcho1) :: .byte (hiByte s.siaEcho2) :: .byte (loByte s.siaEcho2) :: r) :
    steps 18 s = .next (takeSecondEcho
      { s with
        seq := .sia6c, rxStream := r, rxb := loByte s.siaEcho2, echo := s.siaEcho2, rxTimeout := false,
        txStream := s.txStream ++ setaddrBytes s.ia,
        events := s.events ++ setaddrEvents s.ia s.siaEcho1 s.siaEcho2 }) := by
  have ⟨hb, hm, _⟩ := hr
  refine steps_trans (m := 15) (n := 3) (steps_firstEcho hr ho hc ha) ?_
  refine steps_trans (m := 2) (n := 1) (sia6b_readsEcho.steps_pair ⟨hb, hm, rfl⟩ ho rfl) ?_
  refine steps_of_line hb hm (next_of_micro (.sia6cMatch rfl ((echoReceived_iff _ _).mpr ⟨rfl, pairOf_bytes _⟩))) ?_
  simp only [steps_zero, List.append_assoc, pairOf_bytes]
  rfl

/-- R151: the end of an iteration that failed. -/
theorem steps_flushRetry (hr : s.runsAt .siaFail) (ho : s.isOpen = true) :
    ∃ k p, steps 1 s = .next
      { s with
        seq := .siaTop, rxStream := s.rxStream.drop k, flushPlan := p,
        events := s.events ++ [.flush .tFlush, .retry .setaddr] } := by
  obtain ⟨hb, hm, hl⟩ := hr
  obtain ⟨k, p, hf⟩ := flush_eq s
  exact ⟨k, p, steps_of_line hb hm (next_of_micro (.siaFail k p hl ho hf)) (steps_zero _)⟩

/-- R150, R151: `u` is back at the top after an iteration that failed from `s` on, the answers being used up to `r`. -/
structure EchoRetried (s : State) (r : List Answer) (u : State) : Prop where
  runs : u.runsAt .siaTop
  curOp : u.curOp = s.curOp
  linkState : u.linkState = s.linkState
  ia : u.ia = s.ia
  txStream : u.txStream = s.txStream
  events : ∃ reads, u.events = s.events ++ reads ++ [.flush .tFlush, .retry .setaddr] ∧ reads.all Event.isShortRead = true
  rxStream : ∃ k, u.rxStream = r.drop k

/-- R150, R151: the reads of an echo, a comparison that fails, and the way back to the top. -/
theorem ReadsEcho.steps_retry (hread : ReadsEcho first second cmp) {x : Option (List Byte)} {e : Pair}
    (hr : s.runsAt first) (ho : s.isOpen = true) (ha : readBytes 2 s.rxStream = (x, r))
    (hx : x ≠ some [hiByte e, loByte e])
    (hcmp : ∀ u : State, u.seq = cmp → u.siaEcho1 = s.siaEcho1 → u.siaEcho2 = s.siaEcho2 →
      u.rxTimeout = true ∨ u.echo ≠ e → microLine u = .next { u with seq := .siaFail }) :
    ∃ n u, steps n s = .next u ∧ EchoRetried s r u := by
  have ⟨hb, hm, _⟩ := hr
  obtain ⟨n, latch, timeout, pair, reads, hreads, hwrong, hrun⟩ := hread.steps_wrong hr ho ha hx
  obtain ⟨k, p, hback⟩ := steps_flushRetry (s := { s with
    seq := .siaFail, rxStream := r, rxb := latch, rxTimeout := timeout, echo := pair, events := s.events ++ reads })
    ⟨hb, hm, rfl⟩ ho
  refine ⟨n + 2, _, steps_trans hrun (steps_of_line hb hm (hcmp _ rfl rfl rfl hwrong) hback), ?_⟩
  exact ⟨⟨hb, hm, rfl⟩, rfl, rfl, rfl, rfl, ⟨reads, rfl, hreads⟩, k, rfl⟩

/-! ## `SETADDR` -/

/-- Settles O29: the start enters an iteration with `link_state = AddressAssigning`, and its end is the host's. -/
theorem setaddrAssignsTheAddress : Obligations.SetaddrAssignsTheAddress := by
  intro s r hr ho hc ha
  refine ⟨_, exec_opCode_defined (op := .setaddr) hr.1 (by decide), ?_⟩
  have hrun := startOp_runsAt .setaddr hr
  rw [startOp_record] at hrun ⊢
  rw [steps_bothEchoes hrun ho hc ha, takeSecondEcho_host rfl]
  simp [entryLink, linkEvent_of_ne]

/-- Settles O30: the iteration ends at the comparison of the first echo. -/
theorem setaddrRetriesAWrongFirstEcho : Obligations.SetaddrRetriesAWrongFirstEcho := by
  intro s x r hr ho hc ha hx
  have ⟨hb, hm, _⟩ := hr
  obtain ⟨n, u, hrun, hu⟩ := sia2b_readsEcho.steps_retry (s := { s with
    seq := .sia2b, txStream := s.txStream ++ [0x22, 0x00, 0x1A],
    events := s.events ++ [.tx 0x22, .tx 0x00, .tx 0x1A] }) ⟨hb, hm, rfl⟩ ho ha hx
    fun v hl he1 _ hwrong => next_of_micro (.sia2cFail hl (echoReceived_eq_false (by rwa [he1])))
  exact ⟨4 + n, u, steps_trans (steps_askFirstEcho hr ho hc) hrun, hu.runs, hu.linkState, hu.ia, hu.txStream, hu.events,
    hu.rxStream⟩

/-- Settles O60: the iteration ends at the comparison of the second echo. -/
theorem setaddrRetriesAWrongSecondEcho : Obligations.SetaddrRetriesAWrongSecondEcho := by
  intro s a x r hr ho hc hfirst ha hx
  have ⟨hb, hm, _⟩ := hr
  obtain ⟨n, u, hrun, hu⟩ := sia6b_readsEcho.steps_retry (s := { s with
    seq := .sia6b, rxStream := a, rxb := loByte s.siaEcho1, echo := s.siaEcho1, rxTimeout := false,
    txStream := s.txStream ++ setaddrBytes s.ia, events := s.events ++ addressEvents s.ia s.siaEcho1 })
    ⟨hb, hm, rfl⟩ ho ha hx
    fun v hl _ he2 hwrong => next_of_micro (.sia6cFail hl (echoReceived_eq_false (by rwa [he2])))
  exact ⟨15 + n, u, steps_trans (steps_firstEcho hr ho hc hfirst) hrun, hu.runs, hu.curOp, hu.linkState, hu.ia, hu.txStream,
    hu.events, hu.rxStream⟩

/-! ## `INIT` -/

/-- R155, R157: from the start to the entry of `RESET`. -/
theorem steps_initOpen (hr : s.runsAt .iniOpen) (ho : s.isOpen = true) (hc : s.cancel = false) :
    steps 4 s = .next
      { s with
        seq := .rstTop, linkState := .resetting, line := some fixedLine,
        events := s.events ++ [.isOpen true, .configure] ++ linkEvent s.linkState .resetting } := by
  obtain ⟨hb, hm, hl⟩ := hr
  refine steps_of_line hb hm (next_of_micro (.iniOpenYes hl ho)) ?_
  refine steps_of_line hb hm (next_of_micro (.iniCfg rfl ho)) ?_
  refine steps_of_line hb hm (next_of_micro (.iniTopGo rfl hc)) ?_
  refine steps_of_line hb hm (next_of_micro (.iniRst rfl)) ?_
  simp

/-- R143, R155: a `RESET` that `INIT` called, acknowledged at once, and the entry of `SETADDR`. -/
theorem steps_initReset (hr : s.runsAt .rstTop) (ho : s.isOpen = true) (hc : s.cancel = false) (hop : s.curOp = .init)
    (hlink : s.linkState ≠ .addressAssigning) (ha : s.rxStream = .byte 0x03 :: r) :
    steps 5 s = .next
      { s with
        seq := .siaTop, rxStream := r, rxb := 0x03, rxTimeout := false, linkState := .addressAssigning, retOk := true,
        retCode := .none, txStream := s.txStream ++ [0x01],
        events := s.events ++ [.tx 0x01, .rx 0x03, .state .addressAssigning] } := by
  have ⟨hb, hm, _⟩ := hr
  refine steps_trans (m := 3) (n := 2) (steps_resetExchange hr ho hc (by rw [ha, nextAnswer_cons])) ?_
  refine steps_of_line hb hm (next_of_micro (.rstCmpAck rfl (ackReceived_answered.trans (decide_eq_true rfl)))) ?_
  refine (congrArg (steps 1) (takeResetAck_init (by exact hop))).trans ?_
  refine steps_of_line hb hm (next_of_micro (.iniSia rfl)) ?_
  simp [State.answered, latchAfter, answerEvent, linkEvent_of_ne hlink]

/-- R147, R155: a `SETADDR` that `INIT` called, with both echoes as expected. -/
theorem steps_initSetaddr (hr : s.runsAt .siaTop) (ho : s.isOpen = true) (hc : s.cancel = false) (hop : s.curOp = .init)
    (hlink : s.linkState = .addressAssigning)
    (ha : s.rxStream =
      .byte (hiByte s.siaEcho1) :: .byte (loByte s.siaEcho1) :: .byte (hiByte s.siaEcho2) :: .byte (loByte s.siaEcho2) :: r) :
    steps 18 s = .next
      { s with
        seq := .iniChk, rxStream := r, rxb := loByte s.siaEcho2, echo := s.siaEcho2, rxTimeout := false,
        linkState := .stateChecking, retOk := true, retCode := .none, txStream := s.txStream ++ setaddrBytes s.ia,
        events := s.events ++ setaddrEvents s.ia s.siaEcho1 s.siaEcho2 ++ [.state .stateChecking] } := by
  rw [steps_bothEchoes hr ho hc ha, takeSecondEcho_init (by exact hop)]
  simp [hlink, linkEvent_of_ne]

/-- R140, R155: a `CHKSTATE` that `INIT` called, answered with 0x07, and the end of `INIT`. -/
theorem steps_initCheck (hr : s.runsAt .iniChk) (ho : s.isOpen = true) (hop : s.curOp = .init)
    (hlink : s.linkState = .stateChecking) (ha : s.rxStream = .byte 0x07 :: r) :
    steps 5 s = .next
      { s with
        seq := .idle, busy := false, rxStream := r, rxb := 0x07, rxTimeout := false, linkState := .ready, resOk := true,
        resCode := .none, retOk := true, retCode := .none, txStream := s.txStream ++ [0x02],
        events := s.events ++ [.tx 0x02, .rx 0x07, .state .ready, .done .init true .none] } := by
  obtain ⟨hb, hm, hl⟩ := hr
  have hready : nextAnswer s.rxStream = (.byte 0x07, r) := by rw [ha, nextAnswer_cons]
  refine steps_of_line hb hm (next_of_micro (.iniChk hl)) ?_
  refine steps_of_line hb hm (next_of_micro (.chkTx rfl ho)) ?_
  refine steps_of_line hb hm (readLatched_open .tShort .chkEnd ho hready) ?_
  refine steps_of_line hb hm
    (next_of_micro (.chkEndReady rfl (readyReceived_answered.trans (decide_eq_true rfl)))) ?_
  refine (congrArg (steps 1) (takeReady_init (by exact hop))).trans ?_
  refine steps_of_line hb hm (next_of_micro (.iniEndOk rfl rfl)) ?_
  simp [State.answered, latchAfter, answerEvent, finish, emit, hop, hlink, linkEvent_of_ne, stateRequest]

/-- Settles O31: the parts one after another. -/
theorem initBringsTheLinkUp : Obligations.InitBringsTheLinkUp := by
  intro s r hr ho hc ha
  refine ⟨_, 4 + (5 + (18 + 5)), exec_opCode_defined (op := .init) hr.1 (by decide), ?_⟩
  have hrun := startOp_runsAt .init hr
  rw [startOp_record] at hrun ⊢
  have ⟨hb, hm, _⟩ := hrun
  refine steps_trans (steps_initOpen hrun ho hc) ?_
  refine steps_trans (steps_initReset ⟨hb, hm, rfl⟩ ho hc rfl (by simp) ha) ?_
  refine steps_trans (steps_initSetaddr ⟨hb, hm, rfl⟩ ho hc rfl rfl rfl) ?_
  refine (steps_initCheck ⟨by exact hb, by exact hm, rfl⟩ (by exact ho) rfl rfl rfl).trans ?_
  simp [entryLink]

end Sys2Proof.Machine
end

section
/-! PROOFS. R130, R174, R177: `WRITE` from start to end. The pairs of `TX_PREFIX` and frame byte are an induction over the bytes left;
what is sent from an index on is the encoding of the frame from that index on. -/

namespace Sys2Proof.Machine

variable {s : State} {i n : Nat}

/-! ## The frame to transmit from an index on -/

/-- R29: the frame to transmit has `tx_len` bytes. -/
@[simp] theorem length_txFrame (s : State) : s.txFrame.length = s.txLen.toNat := by
  simp [State.txFrame, State.txbytes]

/-- R50: from an index inside the frame on there is its byte and then the rest. -/
theorem drop_txFrame (h : i < s.txLen.toNat) : s.txFrame.drop i = s.txbByte i :: s.txFrame.drop (i + 1) := by
  rw [List.drop_eq_getElem_cons (by simpa using h)]
  simp [State.txFrame, State.txbytes]

/-! ## The pairs -/

/-- R90, R174: the two bytes of the pair at `idx`. -/
def State.pair (s : State) : List Byte := [prefixByte s.idx, s.txbByte s.idx.toNat]

/-- R174: a pair sent, the frame byte absorbed and counted: another pair follows, or the end marker. -/
theorem steps_pair (hr : s.runsAt .wrPfx) (ho : s.isOpen = true) (hlt : s.idx.toNat < s.txLen.toNat) :
    steps 2 s = .next
      { s with
        seq := if s.idx.toNat + 1 < s.txLen.toNat then .wrPfx else .wrEnd, idx := s.idx + 1,
        acc := s.acc ^^^ s.txbByte s.idx.toNat, txStream := s.txStream ++ s.pair,
        events := s.events ++ s.pair.map .tx } := by
  obtain ⟨hb, hm, hl⟩ := hr
  have hmax := idx_lt_txMax_of_lt_txLen hlt
  refine steps_of_line hb hm (next_of_micro (.wrPfx hl ho hmax)) ?_
  by_cases hmore : s.idx.toNat + 1 < s.txLen.toNat
  · refine steps_of_line hb hm (next_of_micro (.wrDatMore rfl ho hmax (by rwa [idx_add_one hlt]))) ?_
    simp [hmore, State.pair]
    rfl
  · refine steps_of_line hb hm (next_of_micro (.wrDatLast rfl ho hmax ((Nat.le_of_not_lt hmore).trans_eq (idx_add_one hlt).symm))) ?_
    simp [hmore, State.pair]
    rfl

/-- R174: the pairs from `idx` on, with the bytes below it absorbed, to the end of the frame. -/
theorem steps_pairs (n : Nat) {s : State} (hr : s.runsAt .wrPfx) (ho : s.isOpen = true)
    (hacc : s.acc = cs (s.txbytes s.idx.toNat)) (hn : s.idx.toNat + (n + 1) = s.txLen.toNat) :
    steps (2 * (n + 1)) s = .next
      { s with
        seq := .wrEnd, idx := s.txLen, acc := cs s.txFrame,
        txStream := s.txStream ++ encPairs s.idx (s.txFrame.drop s.idx.toNat),
        events := s.events ++ (encPairs s.idx (s.txFrame.drop s.idx.toNat)).map .tx } := by
  induction n generalizing s with
  | zero =>
    have hlt : s.idx.toNat < s.txLen.toNat := by omega
    have hend : s.idx + 1 = s.txLen := BitVec.eq_of_toNat_eq (by rw [idx_add_one hlt]; omega)
    have hnil : s.txFrame.drop (s.idx.toNat + 1) = [] := List.drop_eq_nil_of_le (by rw [length_txFrame]; omega)
    have hcs : cs s.txFrame = s.acc ^^^ s.txbByte s.idx.toNat := by rw [cs_txbytes_idx_succ hacc hlt, hend]; rfl
    rw [steps_pair hr ho hlt, if_neg (by omega), hend, hcs, drop_txFrame hlt, hnil]
    rfl
  | succ n ih =>
    have ⟨hb, hm, _⟩ := hr
    have hlt : s.idx.toNat < s.txLen.toNat := by omega
    have hpair := steps_pair hr ho hlt
    rw [if_pos (by omega)] at hpair
    rw [show 2 * (n + 1 + 1) = 2 + 2 * (n + 1) by omega, steps_add hpair]
    have hidx := idx_add_one hlt
    have hleft : (s.idx + 1).toNat + (n + 1) = s.txLen.toNat := by omega
    refine (ih ⟨by exact hb, by exact hm, rfl⟩ (by exact ho) (by exact cs_txbytes_idx_succ hacc hlt)
      (by exact hleft)).trans ?_
    rw [drop_txFrame hlt]
    simp only [hidx, List.append_assoc, State.pair, encPairs, List.map_cons]
    rfl

/-! ## `WRITE` -/

/-- R174: the pairs, the end marker and the checksum of a frame that is long enough. -/
theorem steps_write (hr : s.runsAt .wrChk) (ho : s.isOpen = true) (hmin : 7 ≤ s.txLen.toNat) :
    steps (2 * s.txLen.toNat + 3) s = .next
      { s with
        seq := .idle, busy := false, idx := s.txLen, acc := cs s.txFrame, resOk := true, resCode := .none,
        txStream := s.txStream ++ (encPairs 0 s.txFrame ++ [endByte s.txLen, cs s.txFrame]),
        events := s.events ++ (encPairs 0 s.txFrame ++ [endByte s.txLen, cs s.txFrame]).map .tx ++
          [.done s.curOp true .none] } := by
  obtain ⟨hb, hm, hl⟩ := hr
  obtain ⟨n, hn⟩ := Nat.exists_eq_add_of_le' (Nat.le_trans (by decide : 1 ≤ 7) hmin)
  rw [show 2 * s.txLen.toNat + 3 = 2 * (n + 1) + 2 + 1 by omega]
  refine steps_of_line hb hm (next_of_micro (.wrChkGo hl hmin)) ?_
  refine steps_trans (steps_pairs n ⟨hb, hm, rfl⟩ ho rfl (by simp [hn])) ?_
  refine steps_of_line hb hm (next_of_micro (.wrEnd rfl ho hmin)) ?_
  refine steps_of_line hb hm (next_of_micro (.wrCs rfl ho)) ?_
  simp only [steps_zero, finish, emit, List.append_assoc, List.map_append]
  rfl

/-- R130: the encoding of the frame to transmit. -/
theorem enc_txFrame (hmin : 7 ≤ s.txLen.toNat) :
    enc s.txFrame = some (encPairs 0 s.txFrame ++ [endByte s.txLen, cs s.txFrame]) := by
  have hmax := s.txLen.isLt
  rw [enc_eq_some (by simpa using hmin) (by rw [length_txFrame]; omega), length_txFrame, endByte_eq]

/-- Settles O22: the start, which keeps the frame, and the run of `steps_write`. -/
theorem writeSendsTheEncoding : Obligations.WriteSendsTheEncoding := by
  intro s hr ho hmin
  refine ⟨_, _, cs s.txFrame, exec_opCode_defined (op := .write) hr.1 (by decide), enc_txFrame hmin, ?_⟩
  have hrun := startOp_runsAt .write hr
  have hframe := startOp_txFrame .write s
  rw [startOp_record] at hrun hframe ⊢
  refine (steps_write hrun ho hmin).trans ?_
  rw [hframe]
  simp [entryLink]

end Sys2Proof.Machine
end

section
/-! PROOFS. R87, R120 to R127: `DECODE` as a run. The state in which `DECODE` has received the bytes `f` so far is told by `f`
alone (`State.holding`), each line that pushes takes it to the state for one byte more, and a timeout anywhere ends the run. -/

namespace Sys2Proof.Machine

variable {s t u v : State} {f bs : List Byte} {a r : List Answer} {b c k x : Byte} {l again done : Label} {m : BitVec 5}

/-! ## What `DECODE` has received so far -/

/-- R121: `f` pushed one byte after another, `m` more to come, `x` latched and the answers `r` left. -/
def State.holding (s : State) (l : Label) (f : List Byte) (m : BitVec 5) (x : Byte) (r : List Answer) : State :=
  { s with
    seq := l, cnt := m, acc := cs f, rxLen := BitVec.ofNat 5 f.length, rxbuf := writeRun s.rxbuf 0 f, rxb := x,
    rxTimeout := false, rxStream := r, events := s.events ++ f.map .rx }

theorem holding_runsAt (hr : s.runsAt again) (l : Label) (f : List Byte) (m : BitVec 5) (x : Byte) (r : List Answer) :
    (s.holding l f m x r).runsAt l :=
  ⟨hr.1, hr.2.1, rfl⟩

/-- R30: `rx_len` of a frame that fits. -/
theorem toNat_ofNat_length (h : f.length ≤ rxMax) : (BitVec.ofNat 5 f.length).toNat = f.length := by
  rw [BitVec.toNat_ofNat]
  simp only [rxMax] at h
  omega

/-- R121: a run of writes and one more behind it. -/
theorem writeRun_concat (m : Memory) (i : Nat) (f : List Byte) (b : Byte) :
    writeRun m i (f ++ [b]) = Memory.write (writeRun m i f) (i + f.length) b := by
  induction f generalizing m i with
  | nil => rfl
  | cons a f ih =>
    rw [List.cons_append, writeRun, writeRun, ih, List.length_cons]
    congr 1
    omega

/-- R120, R121: a line that pushes the next byte, where there is room for it. -/
theorem readOrFail_push_holding {k : Byte → State → Result} (ho : s.isOpen = true) (hroom : f.length < rxMax) :
    readOrFail (s.holding l f m x (.byte b :: r)) (fun b u => orFault (push b u) (k b)) =
      k b (s.holding l (f ++ [b]) m b r) := by
  have hlen : (BitVec.ofNat 5 f.length).toNat = f.length := toNat_ofNat_length hroom.le
  refine (readByte_byte (by exact ho) rfl).trans ?_
  rw [push_ok (by exact hlen ▸ hroom)]
  simp only [orFault, State.holding, hlen, writeRun_concat, cs_concat, Nat.zero_add, List.length_append,
    List.length_singleton, List.map_append, List.append_assoc, BitVec.ofNat_add]
  rfl

/-! ## A `DECODE` that times out -/

/-- R129: the two states agree outside the receive side. -/
def SameOutside (s u : State) : Prop :=
  u = { s with
        seq := u.seq, cnt := u.cnt, acc := u.acc, rxLen := u.rxLen, rxb := u.rxb, rxbuf := u.rxbuf, rxbEpoch := u.rxbEpoch,
        confPol := u.confPol, rxStream := u.rxStream, rxTimeout := u.rxTimeout, retOk := u.retOk, retCode := u.retCode,
        events := u.events }

/-- R123, R127: the run from `u` ends with `Timeout` and the answers `r` left, `s` being the state before the `DECODE`. -/
def TimesOut (s u : State) (r : List Answer) : Prop :=
  ∃ n v, steps n u = .next (decodeFail .timeout v) ∧ SameOutside s v ∧ v.confPol = s.confPol ∧ v.rxStream = r

/-- R123: a line that reads and is not answered. -/
theorem timesOut_of_line {onB : Byte → State → Result} (hr : u.runsAt l) (ho : u.isOpen = true)
    (hline : microLine u = readOrFail u onB) (ha : nextAnswer u.rxStream = (.timeout, r))
    (hout : ∀ a t e, SameOutside s { u with rxStream := a, rxTimeout := t, events := e }) (hpol : u.confPol = s.confPol) :
    TimesOut s u r :=
  ⟨1, _, steps_of_line hr.1 hr.2.1 (hline.trans (readByte_timeout ho ha)) (steps_zero _), hout _ _ _, hpol, rfl⟩

/-- A run that leads to one that times out. -/
theorem TimesOut.of_steps {n : Nat} (h : TimesOut s u r) (hrun : steps n t = .next u) : TimesOut s t r := by
  obtain ⟨m, v, hm, hv⟩ := h
  exact ⟨n + m, v, steps_trans hrun hm, hv⟩

/-- R123: with `f` received. -/
theorem holding_timesOut {onB : Byte → State → Result} (hr : s.runsAt again) (ho : s.isOpen = true)
    (hline : ∀ u : State, u.seq = l → microLine u = readOrFail u onB) (ha : nextAnswer a = (.timeout, r)) :
    TimesOut s (s.holding l f m x a) r :=
  timesOut_of_line (holding_runsAt hr l f m x a) ho (hline _ rfl) ha (fun _ _ _ => rfl) rfl

/-! ## The lines one by one -/

/-- R120: the control field read and pushed. -/
theorem steps_control (hr : s.runsAt .decCtrl) (ho : s.isOpen = true) (hc : isCtrl c = true)
    (ha : s.rxStream = .byte c :: r) : steps 2 s = .next (s.holding .decAddr [c] 4 c r) := by
  obtain ⟨hb, hm, hl⟩ := hr
  refine steps_of_line hb hm (next_of_micro (.decCtrlByte c r hl ho ha)) ?_
  exact steps_of_line hb hm
    (next_of_micro (.decClsCtrl c rfl rfl ((classify_eq_ctrl_iff c).mpr hc) (by exact (by decide : 0 < rxMax)))) rfl

/-- R120: the labels of a counted loop. -/
structure PushesCounted (again done : Label) : Prop where
  line : ∀ u : State, u.seq = again →
    microLine u = readOrFail u fun b v => orFault (push b v) fun w =>
      .next (goto (if w.cnt - 1 = 0 then done else again) { w with cnt := w.cnt - 1 })

theorem decAddr_pushesCounted : PushesCounted .decAddr .decLen :=
  ⟨fun u h => by rw [microLine, h]; rfl⟩

theorem decPay_pushesCounted : PushesCounted .decPay .decChk :=
  ⟨fun u h => by rw [microLine, h]; rfl⟩

/-- R120: one turn of the loop. -/
theorem PushesCounted.step_turn (hp : PushesCounted again done) (hr : s.runsAt l) (ho : s.isOpen = true)
    (hroom : f.length < rxMax) :
    step (s.holding again f m x (.byte b :: r)) =
      .next (s.holding (if m - 1 = 0 then done else again) (f ++ [b]) (m - 1) b r) := by
  have ⟨hb, hm, hl⟩ := holding_runsAt hr again f m x (.byte b :: r)
  rw [step_engine hm hb, hp.line _ hl, readOrFail_push_holding ho hroom]
  rfl

/-- R120: a turn that goes on. -/
theorem PushesCounted.step_more (hp : PushesCounted again done) {n : Nat} (hr : s.runsAt l) (ho : s.isOpen = true)
    (hm : m.toNat = n + 2) (hroom : f.length < rxMax) :
    step (s.holding again f m x (.byte b :: r)) = .next (s.holding again (f ++ [b]) (m - 1) b r) := by
  have hcnt : m - 1 ≠ 0 := by rw [Ne, cnt_eq_zero, cnt_sub_one (by omega)]; omega
  rw [hp.step_turn hr ho hroom, if_neg hcnt]

/-- R120: the last turn. -/
theorem PushesCounted.step_last (hp : PushesCounted again done) (hr : s.runsAt l) (ho : s.isOpen = true)
    (hm : m.toNat = 1) (hroom : f.length < rxMax) :
    step (s.holding again f m x (.byte b :: r)) = .next (s.holding done (f ++ [b]) 0 b r) := by
  have hcnt : m - 1 = 0 := by rw [cnt_eq_zero, cnt_sub_one (by omega)]; omega
  rw [hp.step_turn hr ho hroom, if_pos hcnt, hcnt]

/-- R120, R124: the whole loop, if every byte is answered. -/
theorem PushesCounted.steps_bytes (hp : PushesCounted again done) {n : Nat} (hr : s.runsAt l) (ho : s.isOpen = true)
    (hm : m.toNat = n + 1) (hroom : f.length + (n + 1) ≤ rxMax) (hlen : bs.length = n + 1) :
    ∃ y, steps (n + 1) (s.holding again f m x (bs.map .byte ++ r)) = .next (s.holding done (f ++ bs) 0 y r) := by
  induction n generalizing f m x bs with
  | zero =>
    obtain ⟨b, rfl⟩ := List.length_eq_one_iff.mp hlen
    exact ⟨b, (steps_succ (hp.step_last hr ho hm (by omega)) 0).trans rfl⟩
  | succ n ih =>
    obtain ⟨b, bs, rfl⟩ := List.exists_cons_of_length_eq_add_one hlen
    have hleft : (m - 1).toNat = n + 1 := by rw [cnt_sub_one (by omega)]; omega
    obtain ⟨y, hy⟩ := ih (f := f ++ [b]) (m := m - 1) (x := b) (bs := bs) hleft (by simp; omega) (by simpa using hlen)
    refine ⟨y, (steps_succ (hp.step_more hr ho hm (by omega)) (n + 1)).trans ?_⟩
    simpa using hy

/-- R123: the loop, if a byte of it is not answered. -/
theorem PushesCounted.timesOut (hp : PushesCounted again done) {n : Nat} (hr : s.runsAt l) (ho : s.isOpen = true)
    (hm : m.toNat = n + 1) (hroom : f.length + (n + 1) ≤ rxMax) (ha : readBytes (n + 1) a = (none, r)) :
    TimesOut s (s.holding again f m x a) r := by
  induction n generalizing f m x a with
  | zero =>
    rcases answer_cases a with ⟨r', hr'⟩ | ⟨b, r', rfl⟩
    · rw [readBytes_succ_timeout hr'] at ha
      cases ha
      exact holding_timesOut hr ho hp.line hr'
    · simp [readBytes] at ha
  | succ n ih =>
    rcases answer_cases a with ⟨r', hr'⟩ | ⟨b, r', rfl⟩
    · rw [readBytes_succ_timeout hr'] at ha
      cases ha
      exact holding_timesOut hr ho hp.line hr'
    · have hleft : (m - 1).toNat = n + 1 := by rw [cnt_sub_one (by omega)]; omega
      have hrest : readBytes (n + 1) r' = (none, r) := by
        rw [readBytes_succ_byte] at ha
        obtain ⟨hbytes, hr'⟩ := Prod.mk.inj ha
        exact Prod.ext (Option.map_eq_none_iff.mp hbytes) hr'
      have hstep := steps_succ (hp.step_more (s := s) (f := f) (x := x) (b := b) (r := r') hr ho hm (by omega)) 0
      exact (ih hleft (by simp; omega) hrest).of_steps hstep

/-- R129: the bytes read stand at the front of the answers. -/
theorem readBytes_eq_some_iff {n : Nat} : readBytes n a = (some bs, r) ↔ bs.length = n ∧ a = bs.map .byte ++ r := by
  refine ⟨fun h => ?_, fun ⟨hlen, ha⟩ => by rw [ha, readBytes_map_append r hlen]⟩
  induction n generalizing a bs with
  | zero => cases h; exact ⟨rfl, rfl⟩
  | succ n ih =>
    rcases answer_cases a with ⟨r', hr'⟩ | ⟨b, r', rfl⟩
    · simp [readBytes_succ_timeout hr'] at h
    · rw [readBytes_succ_byte] at h
      obtain ⟨hbytes, hrest⟩ := Prod.mk.inj h
      obtain ⟨cs', hcs, rfl⟩ := Option.map_eq_some_iff.mp hbytes
      obtain ⟨hlen, ha⟩ := ih (Prod.ext hcs hrest)
      exact ⟨by simp [hlen], by simp [ha]⟩

/-- R124: the length byte pushed, which counts the payload. -/
theorem step_length (hr : s.runsAt again) (ho : s.isOpen = true) (hroom : f.length < rxMax) :
    step (s.holding .decLen f m x (.byte b :: r)) = .next (s.holding .decPay (f ++ [b]) (payloadCount b) b r) := by
  have ⟨hb, hm, hl⟩ := holding_runsAt hr .decLen f m x (.byte b :: r)
  rw [step_engine hm hb, microLine, hl]
  exact readOrFail_push_holding (s := s) (l := .decLen) ho hroom

/-- R87, R121: the state with the frame and its checksum byte received. -/
theorem step_checksum (hr : s.runsAt again) (ho : s.isOpen = true) :
    step (s.holding .decChk f 0 x (.byte k :: r)) = .next { storeFrame f k s with seq := .decVfy, rxStream := r } := by
  have ⟨hb, hm, hl⟩ := holding_runsAt hr .decChk f 0 x (.byte k :: r)
  rw [step_engine hm hb, next_of_micro (.decChkByte k r hl ho rfl)]
  simp [State.holding, storeFrame]

/-! ## A frame with its checksum -/

variable {s1 s2 d1 d2 : Byte} {p : List Byte}

/-- R87, R120: a frame at the front of the answers, up to the verdict. -/
theorem steps_frame (hr : s.runsAt .decCtrl) (ho : s.isOpen = true) (hc : isCtrl c = true)
    (hp : p.length = (payloadCount b).toNat)
    (ha : s.rxStream = (frameBytes c s1 s2 d1 d2 b p ++ [k]).map .byte ++ r) :
    steps (p.length + 8) s = .next { storeFrame (frameBytes c s1 s2 d1 d2 b p) k s with seq := .decVfy, rxStream := r } := by
  obtain ⟨hpos, hmax⟩ := payloadCount_bounds b
  obtain ⟨n, hn⟩ := Nat.exists_eq_add_of_le' hpos
  obtain ⟨y, haddr⟩ := decAddr_pushesCounted.steps_bytes (s := s) (f := [c]) (m := 4) (x := c) (n := 3)
    (bs := [s1, s2, d1, d2]) (r := .byte b :: (p.map .byte ++ .byte k :: r)) hr ho rfl (by simp [rxMax]) rfl
  obtain ⟨z, hpay⟩ := decPay_pushesCounted.steps_bytes (s := s) (f := [c] ++ [s1, s2, d1, d2] ++ [b]) (m := payloadCount b)
    (x := b) (n := n) (bs := p) (r := .byte k :: r) hr ho hn (by simp [rxMax]; omega) (by omega)
  rw [show p.length + 8 = 2 + (4 + (1 + ((n + 1) + 1))) by omega]
  refine steps_trans (steps_control hr ho hc (by simpa [frameBytes] using ha)) ?_
  refine steps_trans haddr ?_
  refine steps_trans (steps_succ (step_length hr ho (by simp [rxMax])) 0) ?_
  refine steps_trans hpay ?_
  exact steps_succ (step_checksum hr ho) 0

/-- R87: a frame has at most 22 bytes. -/
theorem length_frameBytes_le (hp : p.length = (payloadCount b).toNat) :
    (frameBytes c s1 s2 d1 d2 b p).length ≤ rxMax := by
  have := payloadCount_bounds b
  simp [frameBytes, rxMax]
  omega

/-- R87, R125: the verdict of a `DECODE` on the frame stored in `t`. -/
def frameVerdict (k : Byte) (t : State) : Result :=
  if checksumOk k t then .next (returnSub true .none .rdSw t) else .next (decodeFail .checksumMismatch t)

/-- R87: `RX_FRAME` at its label. -/
theorem exec_rxFrame (hl : s.seq = .decCtrl) (hc : isCtrl c = true) (hp : p.length = (payloadCount b).toNat) :
    exec (.rxFrame c s1 s2 d1 d2 b p k) s =
      whenOpen s (frameVerdict k (storeFrame (frameBytes c s1 s2 d1 d2 b p) k s)) :=
  (atLabel_of_eq hl _).trans (if_pos (by simp [hc, hp]))

/-- R125: the line that gives the verdict. -/
theorem step_verdict (hr : s.runsAt again) :
    step { storeFrame f k s with seq := .decVfy, rxStream := r } =
      frameVerdict k (storeFrame f k { s with rxStream := r }) := by
  obtain ⟨hb, hm, -⟩ := hr
  rw [step_engine (by exact hm) (by exact hb)]
  rfl

/-- R125: the verdict is an end of the `DECODE` either way. -/
theorem frameVerdict_next (k : Byte) (t : State) : ∃ u, frameVerdict k t = .next u := by
  by_cases h : checksumOk k t = true
  · exact ⟨_, if_pos h⟩
  · exact ⟨_, if_neg h⟩

/-- R87, R120: a frame at the front of the answers, with the verdict. -/
theorem steps_frameVerdict (hr : s.runsAt .decCtrl) (ho : s.isOpen = true) (hc : isCtrl c = true)
    (hp : p.length = (payloadCount b).toNat)
    (ha : s.rxStream = (frameBytes c s1 s2 d1 d2 b p ++ [k]).map .byte ++ r) :
    steps (p.length + 9) s =
      frameVerdict k (storeFrame (frameBytes c s1 s2 d1 d2 b p) k { s with rxStream := r }) := by
  obtain ⟨u, hu⟩ := frameVerdict_next k (storeFrame (frameBytes c s1 s2 d1 d2 b p) k { s with rxStream := r })
  rw [hu]
  exact steps_trans (m := p.length + 8) (n := 1) (steps_frame hr ho hc hp ha) (steps_succ ((step_verdict hr).trans hu) 0)

/-- R120: on a closed transport the first line is refused. -/
theorem steps_decCtrl_closed (hr : s.runsAt .decCtrl) (ho : s.isOpen = false) (n : Nat) :
    steps (n + 1) s = .refused .transportClosed := by
  obtain ⟨hb, hm, hl⟩ := hr
  have hstep : step s = .refused .transportClosed := by
    rw [step_engine hm hb, microLine, hl]
    exact whenOpen_closed _ ho
  rw [steps, hstep]

/-- Settles O17: on a closed transport both are refused at once. -/
theorem frameReceptionIsDecode : Obligations.FrameReceptionIsDecode := by
  intro s c s1 s2 d1 d2 l p k r hr hwf
  obtain ⟨hc, hp⟩ := (wf_rxFrame_iff ..).mp hwf
  rw [exec_rxFrame (by exact hr.2.2) hc hp]
  by_cases ho : s.isOpen = true
  · rw [whenOpen_open _ (by exact ho)]
    exact steps_frameVerdict (by exact hr) (by exact ho) hc hp rfl
  · have hclosed : s.isOpen = false := Bool.eq_false_iff.mpr ho
    rw [whenOpen_closed _ (by exact hclosed)]
    exact steps_decCtrl_closed (by exact hr) (by exact hclosed) _

/-! ## What the frame leaves behind -/

/-- R125: the checksum of the frame folds `acc` to zero. -/
theorem checksumOk_storeFrame_iff (f : List Byte) (k : Byte) (s : State) :
    checksumOk k (storeFrame f k s) = true ↔ k = cs f :=
  verifyChecksum_iff f k

/-- R125, R126: the right checksum. -/
theorem frameVerdict_right (f : List Byte) (s : State) :
    frameVerdict (cs f) (storeFrame f (cs f) s) = .next (returnSub true .none .rdSw (storeFrame f (cs f) s)) :=
  if_pos ((checksumOk_storeFrame_iff f (cs f) s).mpr rfl)

/-- R125, R127: any other. -/
theorem frameVerdict_wrong (hk : k ≠ cs f) (s : State) :
    frameVerdict k (storeFrame f k s) = .next (decodeFail .checksumMismatch (storeFrame f k s)) :=
  if_neg (mt (checksumOk_storeFrame_iff f k s).mp hk)

/-- R126: `RXB` holds the frame. -/
theorem rxFrame_storeFrame (h : f.length ≤ rxMax) (k : Byte) (s : State) : (storeFrame f k s).rxFrame = f := by
  refine List.ext_getElem (by simp [State.rxFrame, storeFrame, toNat_ofNat_length h]) fun j _ hj => ?_
  simp [State.rxFrame, State.rxbByte, storeFrame, read?_writeRun, hj]

/-- R51, R121: behind the frame `RXB` reads as before. -/
theorem rxbByte_storeFrame_of_le (f : List Byte) (k : Byte) (s : State) {a : Nat} (ha : f.length ≤ a) :
    (storeFrame f k s).rxbByte a = s.rxbByte a := by
  have hout : ¬(0 ≤ a ∧ a < 0 + f.length) := by omega
  simp only [State.rxbByte, storeFrame, read?_writeRun, if_neg hout]

/-- R87: the number of bytes of a frame. -/
theorem length_frameBytes : (frameBytes c s1 s2 d1 d2 b p).length = p.length + 6 := by
  simp [frameBytes]

/-- Settles O18. -/
theorem frameReceptionStoresTheFrame : Obligations.FrameReceptionStoresTheFrame := by
  intro s c s1 s2 d1 d2 l p k hl ho hwf
  obtain ⟨hc, hp⟩ := (wf_rxFrame_iff ..).mp hwf
  rw [exec_rxFrame hl hc hp, whenOpen_open _ ho]
  have hmax : (frameBytes c s1 s2 d1 d2 l p).length ≤ rxMax := length_frameBytes_le hp
  have hlen : (frameBytes c s1 s2 d1 d2 l p).length = p.length + 6 := length_frameBytes
  generalize frameBytes c s1 s2 d1 d2 l p = f at hmax hlen ⊢
  by_cases hk : k = cs f
  · subst hk
    exact ⟨_, frameVerdict_right f s, rfl,
      fun _ => ⟨rfl, rfl, rxFrame_storeFrame hmax (cs f) s, rfl,
        fun a ha => rxbByte_storeFrame_of_le f (cs f) s (hlen.trans_le ha)⟩,
      fun h => absurd rfl h, rfl⟩
  · exact ⟨_, frameVerdict_wrong hk s, rfl, fun h => absurd h hk, fun _ => ⟨rfl, rfl, rfl⟩, rfl⟩

end Sys2Proof.Machine
end

section
/-! PROOFS. R129, R170, R171, R136: `READ` from its start to its end. The run of `DECODE` is followed on both sides, by the
engine's lines and by `decodeAnswers`, through the same parts of the frame; `READ` adds the state check on `LinkLost`. -/

namespace Sys2Proof.Machine

variable {s t u v : State} {o : DecodeOutcome} {e : ResCode} {a r : List Answer} {b c k : Byte} {f : List Byte} {x : Answer}

/-! ## A `DECODE` that has returned -/

/-- R129: `u` is the return of a `DECODE` of the outcome `o`, started in `s`. -/
structure DecodeDone (s : State) (o : DecodeOutcome) (u : State) : Prop where
  seq_eq : u.seq = .rdSw
  retOk_eq : u.retOk = decide (o.code = .none)
  retCode_eq : u.retCode = o.code
  frame_eq : u.rxFrame = o.frame
  polarity_eq : u.confPol = o.polarity.getD s.confPol
  left_eq : u.rxStream = o.left
  behind : o.code = .none → ∀ a : Nat, o.frame.length ≤ a → u.rxbByte a = s.rxbByte a
  outside : SameOutside s u

/-- R129: the run from `u` ends with the outcome `o`, `s` being the state before the `DECODE`. -/
def Decodes (s u : State) (o : DecodeOutcome) : Prop :=
  ∃ n v, steps n u = .next v ∧ DecodeDone s o v

/-- A run that leads to one that returns. -/
theorem Decodes.of_steps {n : Nat} (h : Decodes s u o) (hrun : steps n t = .next u) : Decodes s t o := by
  obtain ⟨m, v, hm, hv⟩ := h
  exact ⟨n + m, v, steps_trans hrun hm, hv⟩

/-- R127: what `fail(e)` returns. -/
theorem decodeDone_decodeFail {pol : Option Bool} (he : e ≠ .none) (hout : SameOutside s v)
    (hpol : v.confPol = pol.getD s.confPol) (hleft : v.rxStream = r) :
    DecodeDone s { code := e, frame := [], polarity := pol, left := r } (decodeFail e v) where
  seq_eq := rfl
  retOk_eq := (decide_eq_false he).symm
  retCode_eq := rfl
  frame_eq := rfl
  polarity_eq := hpol
  left_eq := hleft
  behind h := absurd h he
  outside := congrArg (decodeFail e) hout

/-- R123: a run that times out is one of the outcome `Timeout`. -/
theorem TimesOut.decodes (h : TimesOut s u r) : Decodes s u (.failed .timeout r) := by
  obtain ⟨n, v, hrun, hout, hpol, hleft⟩ := h
  exact ⟨n, _, hrun, decodeDone_decodeFail (by decide) hout hpol hleft⟩

/-- R125: the verdict on a frame received. -/
theorem frameVerdict_decodeDone (h : f.length ≤ rxMax) (k : Byte) (s : State) (r : List Answer) :
    ∃ u, frameVerdict k (storeFrame f k { s with rxStream := r }) = .next u ∧
      DecodeDone s
        (if verifyChecksum f k then { code := .none, frame := f, polarity := none, left := r }
          else .failed .checksumMismatch r) u := by
  by_cases hk : k = cs f
  · subst hk
    refine ⟨_, frameVerdict_right f _, ?_⟩
    rw [if_pos ((verifyChecksum_iff f (cs f)).mpr rfl)]
    exact ⟨rfl, rfl, rfl, rxFrame_storeFrame h (cs f) { s with rxStream := r }, rfl, rfl,
      fun _ _ ha => rxbByte_storeFrame_of_le f (cs f) { s with rxStream := r } ha, rfl⟩
  · refine ⟨_, frameVerdict_wrong hk _, ?_⟩
    rw [if_neg (mt (verifyChecksum_iff f k).mp hk)]
    exact decodeDone_decodeFail (by decide) rfl rfl rfl

/-! ## The run of `DECODE` -/

/-- R120: the first byte latched, to be classified next. -/
def State.firstByteRead (s : State) (b : Byte) (r : List Answer) : State :=
  { s with
    seq := .decCls, acc := csSeed, rxLen := 0, rxStream := r, rxb := b, rxTimeout := false, events := s.events ++ [.rx b] }

/-- R122: a first byte that is no control field ends the `DECODE` at the next line, `w` holding the polarity where there is
one. -/
theorem decodes_of_class {w : State} {pol : Option Bool} (hr : s.runsAt .decCtrl) (ho : s.isOpen = true)
    (ha : s.rxStream = .byte b :: r) (hcls : Micro (s.firstByteRead b r) (decodeFail e w)) (he : e ≠ .none)
    (hw : w = { s.firstByteRead b r with confPol := pol.getD s.confPol }) :
    Decodes s s { code := e, frame := [], polarity := pol, left := r } := by
  obtain ⟨hb, hm, hl⟩ := hr
  subst hw
  have hrun := steps_of_line hb hm (next_of_micro (.decCtrlByte b r hl ho ha))
    (steps_of_line (by exact hb) (by exact hm) (next_of_micro hcls) (steps_zero _))
  exact ⟨2, _, hrun, decodeDone_decodeFail he rfl rfl rfl⟩

/-- R123: a first byte that is not answered. -/
theorem decodes_timeout (hr : s.runsAt .decCtrl) (ho : s.isOpen = true) (ha : nextAnswer s.rxStream = (.timeout, r)) :
    Decodes s s (.failed .timeout r) := by
  obtain ⟨hb, hm, hl⟩ := hr
  have hrun := steps_of_line hb hm (next_of_micro (.decCtrlTimeout r hl ho ha)) (steps_zero _)
  exact ⟨1, _, hrun, decodeDone_decodeFail (pol := none)
    (v := { s with acc := csSeed, rxStream := r, rxTimeout := true, events := s.events ++ [.rxTimeout .tShort] })
    (by decide) rfl rfl rfl⟩

/-- R120: four bytes. -/
theorem exists_of_length_four {f : List Byte} (h : f.length = 4) : ∃ b c d e, f = [b, c, d, e] :=
  match f, h with
  | [b, c, d, e], _ => ⟨b, c, d, e, rfl⟩

/-- R120, R123, R125: from the control field on, part by part. -/
theorem decodes_body (hr : s.runsAt .decCtrl) (ho : s.isOpen = true) (hc : isCtrl c = true)
    (hs : s.rxStream = .byte c :: a) : Decodes s s (decodeBody c a) := by
  have hctrl := steps_control hr ho hc hs
  rcases haddr : readBytes 4 a with ⟨_ | addr, r1⟩
  case none =>
    have hbody : decodeBody c a = .failed .timeout r1 := by simp [decodeBody, haddr]
    rw [hbody]
    exact (decAddr_pushesCounted.timesOut hr ho rfl (by simp [rxMax]) haddr).decodes.of_steps hctrl
  obtain ⟨hfour, rfl⟩ := readBytes_eq_some_iff.mp haddr
  obtain ⟨y, hlen⟩ := decAddr_pushesCounted.steps_bytes (f := [c]) (m := 4) (x := c) (r := r1) hr ho rfl (by simp [rxMax]) hfour
  have hlen := steps_trans hctrl hlen
  rcases answer_cases r1 with ⟨r2, hr2⟩ | ⟨l, r2, rfl⟩
  · rw [decodeBody_header_timeout c hr2 hfour.le]
    exact (holding_timesOut hr ho (fun u hu => by rw [microLine, hu]; rfl) hr2).decodes.of_steps hlen
  have hpay := steps_trans hlen (steps_succ (step_length hr ho (by simp [rxMax, hfour])) 0)
  obtain ⟨hpos, hmax⟩ := payloadCount_bounds l
  obtain ⟨n, hn⟩ := Nat.exists_eq_add_of_le' hpos
  have hroom : ([c] ++ addr ++ [l]).length + (n + 1) ≤ rxMax := by simp [rxMax, hfour]; omega
  rcases hp : readBytes (n + 1) r2 with ⟨_ | p, r3⟩
  case none =>
    have hbody : decodeBody c (addr.map .byte ++ .byte l :: r2) = .failed .timeout r3 := by
      simp [decodeBody, haddr, hn, hp]
    rw [hbody]
    exact (decPay_pushesCounted.timesOut hr ho hn hroom hp).decodes.of_steps hpay
  obtain ⟨hplen, rfl⟩ := readBytes_eq_some_iff.mp hp
  have hcount : p.length = (payloadCount l).toNat := hplen.trans hn.symm
  obtain ⟨z, hchk⟩ := decPay_pushesCounted.steps_bytes (x := l) (r := r3) hr ho hn hroom hplen
  have hchk := steps_trans hpay hchk
  rcases answer_cases r3 with ⟨r4, hr4⟩ | ⟨k, r4, rfl⟩
  · rw [decodeBody_payload_timeout c hfour hr4 hcount.le]
    exact (holding_timesOut hr ho (fun u hu => by rw [microLine, hu]; rfl) hr4).decodes.of_steps hchk
  rw [decodeBody_answered c k r4 hfour hcount]
  obtain ⟨s1, s2, d1, d2, rfl⟩ := exists_of_length_four hfour
  obtain ⟨u, hverdict, hdone⟩ := frameVerdict_decodeDone (f := frameBytes c s1 s2 d1 d2 l p)
    (length_frameBytes_le hcount) k s r4
  exact ⟨_, u, (steps_frameVerdict hr ho hc hcount (by simpa [frameBytes] using hs)).trans hverdict, hdone⟩

/-- R120, R122, R123: `DECODE` by the class of the first byte. -/
theorem decodes_answers (hr : s.runsAt .decCtrl) (ho : s.isOpen = true) : Decodes s s (decodeAnswers s.rxStream) := by
  rcases answer_cases s.rxStream with ⟨r, ha⟩ | ⟨b, r, ha⟩
  · have houtcome : decodeAnswers s.rxStream = .failed .timeout r := by simp [decodeAnswers, ha]
    rw [houtcome]
    exact decodes_timeout hr ho ha
  · rw [ha]
    cases hb : classify b with
    | ctrl =>
      rw [decodeAnswers_ctrl ((classify_eq_ctrl_iff b).mp hb)]
      exact decodes_body hr ho ((classify_eq_ctrl_iff b).mp hb) ha
    | linkLost =>
      simp only [decodeAnswers, nextAnswer_cons, hb]
      exact decodes_of_class (pol := none) hr ho ha (.decClsLost rfl hb) (by decide) rfl
    | confNeg =>
      simp only [decodeAnswers, nextAnswer_cons, hb]
      exact decodes_of_class (pol := some false) hr ho ha (.decClsNeg rfl hb) (by decide) rfl
    | confPos =>
      simp only [decodeAnswers, nextAnswer_cons, hb]
      exact decodes_of_class (pol := some true) hr ho ha (.decClsPos rfl hb) (by decide) rfl
    | other =>
      rw [decodeAnswers_other hb]
      exact decodes_of_class (pol := none) hr ho ha (.decClsOther rfl hb) (by decide) rfl

/-! ## `READ` around the `DECODE` -/

/-- R129, R170: `u` differs from `s` in what a `READ` may write only. -/
def State.withRead (s u : State) : State :=
  { s with
    seq := u.seq, cnt := u.cnt, busy := u.busy, curOp := u.curOp, acc := u.acc, rxLen := u.rxLen, rxb := u.rxb,
    rxbuf := u.rxbuf, rxbEpoch := u.rxbEpoch, linkState := u.linkState, resOk := u.resOk, resCode := u.resCode,
    confPol := u.confPol, events := u.events, txStream := u.txStream, rxStream := u.rxStream,
    rxTimeout := u.rxTimeout, retOk := u.retOk, retCode := u.retCode }

/-- R129: the frame of a `DECODE` is within the one of a `READ`. -/
theorem SameOutside.withRead (h : SameOutside s u) : u = s.withRead u :=
  (congrArg (State.withRead · u) h).trans rfl

/-- The frames of successive runs. -/
theorem withRead_trans (h : t = s.withRead t) (h' : u = t.withRead u) : u = s.withRead u :=
  h'.trans ((congrArg (State.withRead · u) h).trans rfl)

/-- R170: `READ` started, and its `DECODE` called. -/
def State.readStarted (s : State) : State :=
  { s with curOp := .read, busy := true, seq := .decCtrl, events := s.events ++ [.start .read] }

/-- R25, R170: the start, and `RD_DEC`. -/
theorem steps_readStarted (hr : s.ready) : steps 1 (startOp .read s) = .next s.readStarted := by
  have ⟨hb, hm, hl⟩ := startOp_runsAt .read hr
  refine steps_of_line hb hm (next_of_micro (.rdDec hl)) ?_
  simp [startOp_record, entryLink, State.readStarted]

/-- R170: the end, where no link was lost. -/
theorem steps_readEnd (hr : v.runsAt .rdSw) (hc : v.retCode ≠ .linkLost) :
    steps 2 v = .next (finish v.retOk v.retCode v) := by
  obtain ⟨hb, hm, hl⟩ := hr
  refine steps_of_line hb hm (next_of_micro (.rdSwEnd hl hc)) ?_
  exact steps_of_line (by exact hb) (by exact hm) (next_of_micro (.rdEnd rfl)) rfl

/-- R140, R171: the state after the state check that a lost link asks for. -/
def State.linkChecked (s : State) (a : Answer) (r : List Answer) : State :=
  { s with
    linkState := if a = .byte 0x07 then .ready else .stateChecking, txStream := s.txStream ++ [0x02], rxStream := r,
    rxb := latchAfter a s.rxb, rxTimeout := decide (a = .timeout),
    events := s.events ++ linkEvent s.linkState .stateChecking ++ [.tx 0x02, answerEvent .tShort a] ++
      (if a = .byte 0x07 then [.state .ready] else []) }

/-- R140, R171: the comparison of the state check that `READ` makes, whose result only `link_state` tells. -/
theorem lineChkEnd_read (hop : s.curOp = .read) :
    lineChkEnd s = .next (goto .rdEnd (if readyReceived s then setLink .ready s else s)) := by
  unfold lineChkEnd takeReady
  cases ht : s.rxTimeout with
  | true => simp [readyReceived_of_rxTimeout ht, endChkstate_read hop]
  | false => cases readyReceived s <;> simp [endChkstate_read, hop]

/-- R140, R171: the state check itself. -/
theorem steps_readCheck (hr : v.runsAt .chkTx) (ho : v.isOpen = true) (hop : v.curOp = .read)
    (ha : nextAnswer v.rxStream = (x, r)) : steps 3 v = .next (goto .rdEnd (v.linkChecked x r)) := by
  obtain ⟨hb, hm, hl⟩ := hr
  refine steps_of_line hb hm (next_of_micro (.chkTx hl ho)) ?_
  refine steps_of_line hb hm (readLatched_open .tShort .chkEnd ho ha) ?_
  refine steps_of_line hb hm (lineChkEnd_read hop) ?_
  rw [steps_zero, readyReceived_answered]
  by_cases hready : x = .byte 7#8
  · simp [hready, setLink_record, linkEvent_of_ne, State.answered, State.linkChecked, goto, stateRequest]
  · simp [hready, State.answered, State.linkChecked, goto, stateRequest]

/-- R170, R171: the end, after a lost link. -/
theorem steps_readLost (hr : v.runsAt .rdSw) (hc : v.retCode = .linkLost) (ho : v.isOpen = true) (hop : v.curOp = .read)
    (ha : nextAnswer v.rxStream = (x, r)) :
    steps 6 v = .next (finish v.retOk v.retCode (v.linkChecked x r)) := by
  obtain ⟨hb, hm, hl⟩ := hr
  refine steps_of_line hb hm (next_of_micro (.rdSwLost hl hc)) ?_
  refine steps_of_line hb hm (next_of_micro (.rdLost rfl)) ?_
  refine steps_trans (n := 1) (steps_readCheck (v := { v with seq := .chkTx }) ⟨hb, hm, rfl⟩ ho hop ha) ?_
  exact steps_of_line hb hm (next_of_micro (.rdEnd rfl)) rfl

/-! ## `READ` from start to end -/

/-- Settles O19: the run of `DECODE` between the start and the end, which asks for the state only if the link is lost. -/
theorem readIsDecodeOfTheAnswers : Obligations.ReadIsDecodeOfTheAnswers := by
  intro s hr ho
  obtain ⟨n, v, hrun, hdone⟩ := decodes_answers (s := s.readStarted) ⟨rfl, hr.2, rfl⟩ ho
  have hdec := steps_trans (steps_readStarted hr) hrun
  have hframe : v = s.withRead v := withRead_trans (t := s.readStarted) rfl hdone.outside.withRead
  have hout := hdone.outside
  have hat : v.runsAt .rdSw := ⟨congrArg State.busy hout, (congrArg State.moves hout).trans hr.2, hdone.seq_eq⟩
  have hop : v.curOp = .read := congrArg State.curOp hout
  have htx : v.txStream = s.txStream := (congrArg State.txStream hout).trans rfl
  have hlink : v.linkState = s.linkState := (congrArg State.linkState hout).trans rfl
  by_cases hlost : (decodeAnswers s.rxStream).code = .linkLost
  · rcases hnext : nextAnswer (decodeAnswers s.rxStream).left with ⟨x, r⟩
    have hanswer : nextAnswer v.rxStream = (x, r) := (congrArg nextAnswer hdone.left_eq).trans hnext
    have hend := steps_readLost hat (hdone.retCode_eq.trans hlost) ((congrArg State.isOpen hout).trans ho) hop hanswer
    exact ⟨_, _, _, exec_opCode_defined (op := .read) hr.1 (by decide), steps_trans hdec hend, rfl, rfl, hop,
      hdone.retOk_eq, hdone.retCode_eq, hdone.frame_eq, hdone.polarity_eq,
      fun _ => ⟨congrArg (· ++ [0x02]) htx, rfl, rfl⟩, fun h => absurd hlost h, hdone.behind, withRead_trans hframe rfl⟩
  · have hend := steps_readEnd hat (hdone.retCode_eq.trans_ne hlost)
    exact ⟨_, _, _, exec_opCode_defined (op := .read) hr.1 (by decide), steps_trans hdec hend, rfl, rfl, hop,
      hdone.retOk_eq, hdone.retCode_eq, hdone.frame_eq, hdone.polarity_eq, fun h => absurd h hlost,
      fun _ => ⟨htx, hdone.left_eq, hlink⟩, hdone.behind, withRead_trans hframe rfl⟩

/-- Settles O26: the pairs and the two bytes after them are stripped to the frame and its checksum. -/
theorem encodeThenReadGivesTheFrame : Obligations.EncodeThenReadGivesTheFrame := by
  intro f l hc hl hn
  have hcount := payloadCount_bounds l
  rw [toNat_payloadCount] at hcount
  have hstrip := strip_encPairs_append 0 f (BitVec.ofNat 8 (0x40 + f.length)) (cs f)
  refine ⟨_, enc_eq_some (by omega) (by omega), hstrip, fun s r hr ho hs => ?_⟩
  have houtcome : decodeAnswers s.rxStream = { code := .none, frame := f, polarity := none, left := r } := by
    rw [hs, hstrip, decodeAnswers_frame hc hl hn, if_pos rfl]
  obtain ⟨t, n, u, hexec, hrun, hbusy, -, -, hok, hcode, hframe, -, -, hrest, -, -⟩ := readIsDecodeOfTheAnswers s hr ho
  rw [houtcome] at hok hcode hframe hrest
  obtain ⟨-, hleft, -⟩ := hrest (by simp)
  exact ⟨t, n, u, hexec, hrun, hbusy, hok, hcode, hframe, hleft⟩

end Sys2Proof.Machine
end
